-- ==== Sys2Proof/Word.lean ====
section
/-! DEFINITION. The value widths of the block (rule R10): `u8`, `u16`, `u32` are unsigned values of that many bits, bit 0 the
least significant. There is no signed value anywhere in the block. -/
namespace Sys2Proof

/-- `u8` of rule R10. -/
abbrev Byte := BitVec 8

/-- `u16` of rule R10. -/
abbrev Half := BitVec 16

/-- `u32` of rule R10: a register value, a command word, a time in milliseconds. -/
abbrev Word := BitVec 32

end Sys2Proof
end

