-- ==== Sys2Proof/Syntax.lean ====
section
/-! DEFINITION. The nine commands of the opcode map (rule R93), one constructor per row of spec/opcode_table.json, and what decoding a
command word answers (rule R92). -/
namespace Sys2Proof

/-- A decoded command (rule R93). An operand has exactly the width rule R94 gives it, so every term is encodable. -/
inductive Instr where
  /-- `POWER_ON`, rule R185. -/
  | powerOn
  /-- `POWER_OFF`, rule R192. -/
  | powerOff
  /-- `APPLY_MODE idx`, rules R187 to R191; `idx = v[15:0]`. -/
  | applyMode (idx : Half)
  /-- `SET_LIMIT b`, rule R193; `b = v[0]`. -/
  | setLimit (b : Bool)
  /-- `APPLY_PROFILE`, rule R194. -/
  | applyProfile
  /-- `SAMPLE`, rule R162. -/
  | sample
  /-- `TICK`, rule R195. -/
  | tick
  /-- `DRAIN_EXPIRY`, rule R196. -/
  | drainExpiry
  /-- `BUILD_SET_SPEED rpm`, rule R251; `rpm = v[15:0]`. -/
  | buildSetSpeed (rpm : Half)
  deriving DecidableEq, Repr

/-- Why a word is `RESERVED`: the four items of rule R98. The block reports none of them apart (rule R261: "it does not say why"). -/
inductive ReservedWord where
  /-- `opcode = 0x00` or `opcode >= 0x0A`. -/
  | unassignedOpcode
  /-- `zero != 0x00`. -/
  | zeroFieldNotZero
  /-- A command without an argument whose `operand` is not 0. -/
  | operandNotZero
  /-- `SET_LIMIT` with `operand[15:1] != 0`. -/
  | limitOperandReserved
  deriving DecidableEq, Repr

/-- What `decode` answers (rule R92): a command with its argument, or `RESERVED`. -/
inductive Decoded where
  | command (i : Instr)
  | reserved (why : ReservedWord)
  deriving DecidableEq, Repr

/-- A row of the opcode map as rule R93 prints it. -/
structure OpcodeRow where
  mnemonic : String
  pattern : Word
  mask : Word
  deriving DecidableEq, Repr

end Sys2Proof
end

