-- ==== Sys2Proof/Decode.lean ====
section
/-! DEFINITION. The command word (rules R90 to R94, R98): the decoder, total on every 32-bit word, the opcode map it realises, and the
encoder. -/
namespace Sys2Proof

/-- `opcode`, bits 31:24 of a command word (rule R91). -/
def opcodeField (v : Word) : Byte := v.extractLsb' 24 8

/-- `zero`, bits 23:16 of a command word (rule R91). -/
def zeroField (v : Word) : Byte := v.extractLsb' 16 8

/-- `operand`, bits 15:0 of a command word (rules R91 and R94). -/
def operandField (v : Word) : Half := v.extractLsb' 0 16

/-- A command without an argument: its operand must be 0 (rule R91). -/
def withoutOperand (operand : Half) (i : Instr) : Decoded :=
  if operand = 0#16 then .command i else .reserved .operandNotZero

/-- The argument of `SET_LIMIT`: bits 15:1 must be 0 and `b` is bit 0 (rule R94). -/
def limitOperand (operand : Half) : Decoded :=
  if operand = 0#16 then .command (.setLimit false)
  else if operand = 1#16 then .command (.setLimit true)
  else .reserved .limitOperandReserved

/-- `decode(v)` of rule R92. -/
def decode (v : Word) : Decoded :=
  if zeroField v ≠ 0x00#8 then .reserved .zeroFieldNotZero
  else if opcodeField v = 0x01#8 then withoutOperand (operandField v) .powerOn
  else if opcodeField v = 0x02#8 then withoutOperand (operandField v) .powerOff
  else if opcodeField v = 0x03#8 then .command (.applyMode (operandField v))
  else if opcodeField v = 0x04#8 then limitOperand (operandField v)
  else if opcodeField v = 0x05#8 then withoutOperand (operandField v) .applyProfile
  else if opcodeField v = 0x06#8 then withoutOperand (operandField v) .sample
  else if opcodeField v = 0x07#8 then withoutOperand (operandField v) .tick
  else if opcodeField v = 0x08#8 then withoutOperand (operandField v) .drainExpiry
  else if opcodeField v = 0x09#8 then .command (.buildSetSpeed (operandField v))
  else .reserved .unassignedOpcode

/-- The command a word decodes to, if it is not `RESERVED`. -/
def decodeCommand (v : Word) : Option Instr :=
  match decode v with
  | .command i => some i
  | .reserved _ => none

/-- A 32-bit value from its four bytes, the lowest address first: the block's one byte order (rule R63). -/
def wordOfBytes (b0 b1 b2 b3 : Byte) : Word :=
  b0.setWidth 32 ||| b1.setWidth 32 <<< 8 ||| b2.setWidth 32 <<< 16 ||| b3.setWidth 32 <<< 24

/-- The four bytes of a 32-bit value, the lowest address first (rule R63). -/
def bytesOfWord (v : Word) : List Byte :=
  [v.extractLsb' 0 8, v.extractLsb' 8 8, v.extractLsb' 16 8, v.extractLsb' 24 8]

/-- The decoder on bytes: a command is exactly one 32-bit word (rule R100), so anything but four bytes is no command. -/
def decodeBytes (bytes : List Byte) : Option Instr :=
  match bytes with
  | [b0, b1, b2, b3] => decodeCommand (wordOfBytes b0 b1 b2 b3)
  | _ => none

/-- The name of rule R93 for each command. -/
def mnemonicOf : Instr → String
  | .powerOn => "POWER_ON"
  | .powerOff => "POWER_OFF"
  | .applyMode _ => "APPLY_MODE"
  | .setLimit _ => "SET_LIMIT"
  | .applyProfile => "APPLY_PROFILE"
  | .sample => "SAMPLE"
  | .tick => "TICK"
  | .drainExpiry => "DRAIN_EXPIRY"
  | .buildSetSpeed _ => "BUILD_SET_SPEED"

/-- The opcode map of rule R93: mnemonic, match, mask. -/
def opcodeTable : List OpcodeRow :=
  [⟨"POWER_ON", 0x01000000#32, 0xFFFFFFFF#32⟩,
   ⟨"POWER_OFF", 0x02000000#32, 0xFFFFFFFF#32⟩,
   ⟨"APPLY_MODE", 0x03000000#32, 0xFFFF0000#32⟩,
   ⟨"SET_LIMIT", 0x04000000#32, 0xFFFFFFFE#32⟩,
   ⟨"APPLY_PROFILE", 0x05000000#32, 0xFFFFFFFF#32⟩,
   ⟨"SAMPLE", 0x06000000#32, 0xFFFFFFFF#32⟩,
   ⟨"TICK", 0x07000000#32, 0xFFFFFFFF#32⟩,
   ⟨"DRAIN_EXPIRY", 0x08000000#32, 0xFFFFFFFF#32⟩,
   ⟨"BUILD_SET_SPEED", 0x09000000#32, 0xFFFF0000#32⟩]

/-- The command word of a command (rules R91 and R93; the worked encodings are rule R104). -/
def encode : Instr → Word
  | .powerOn => 0x01000000#32
  | .powerOff => 0x02000000#32
  | .applyMode idx => 0x03000000#32 ||| idx.setWidth 32
  | .setLimit b => 0x04000000#32 ||| (BitVec.ofBool b).setWidth 32
  | .applyProfile => 0x05000000#32
  | .sample => 0x06000000#32
  | .tick => 0x07000000#32
  | .drainExpiry => 0x08000000#32
  | .buildSetSpeed rpm => 0x09000000#32 ||| rpm.setWidth 32

/-- The decoder's answer for an instruction whose `nbits` bits are `w`, the bits above them 0. A value that does not fit one 32-bit word is
no command (rule R100). -/
def decodeTableWord (nbits w : Nat) : Option Instr :=
  if w % 2 ^ nbits < 2 ^ 32 then decodeBytes (bytesOfWord (BitVec.ofNat 32 (w % 2 ^ nbits))) else none

end Sys2Proof
end

