-- ==== Sys2Proof/Config.lean ====
section
/-! DEFINITION. The implementation parameters of rule R8 and the free values. The parameters a device variant chooses are a
record (`Params`) that the machine's state carries and no step changes, so a statement about every state is a statement about
every device variant. The parameters that rule R8 fixes are constants. The free values are constants without a body. -/
namespace Sys2Proof

/-- The two backends of the FrequencyGenerator (`WAVE_BACKEND`, rules R8 and R140). -/
inductive Backend where
  /-- "Software": the command `TICK` polls the generator. -/
  | polled
  /-- "Hardware delegate": a waveform channel runs by itself. -/
  | channel
  deriving DecidableEq, Repr

/-- Where a timeout leads (`ON_EXPIRY_TARGET`, rules R8 and R198). -/
inductive ExpiryTarget where
  | standby
  | safe
  deriving DecidableEq, Repr

/-- One entry of `MODE_TABLE` (rule R36). Its `name` field is not held by the block (rule R5). -/
structure Mode where
  /-- 0 means "no waveform". -/
  frequencyHz : Half
  indicatorBlinkHz : Half
  /-- 0 means "unlimited". -/
  defaultTimeoutSeconds : Half
  deriving DecidableEq, Repr

/-- The parameters of rule R8 that a device variant gives: fixed before reset is released and never changed (rule R296). -/
structure Params where
  fMin : Half
  fMax : Half
  rpmMax : Half
  frameId : Byte
  frameCmd : Byte
  /-- `MODE_TABLE`; `N_MODES` is its length. -/
  modes : List Mode
  waveBackend : Backend
  onExpiryTarget : ExpiryTarget
  /-- `T_SETTLE`, in nanoseconds (the unit is the model's, log entry 7). It is below 1 ms and no rule reads it (rule R125). -/
  tSettleNs : Nat
  deriving DecidableEq, Repr

/-- One OutputProfile (rule R34); the staged profile has the same fields (rule R35). -/
structure Profile where
  activeHigh : Bool
  debounceMs : Half
  frequencyHz : Half
  dutyPercent : Byte
  interlockEnabled : Bool
  bootAllOff : Bool
  deriving DecidableEq, Repr, Inhabited

/-- The elements whose reset value rule R52 calls unspecified: one arbitrary fixed value per reset (rule R292). -/
structure Unspecified where
  limitEnabled : Bool
  profile : Profile
  staged : Profile
  deriving DecidableEq, Repr, Inhabited

namespace Config

/-- `HALF_PERIOD_NUM` of rule R8, in ms·Hz. -/
abbrev halfPeriodNum : Nat := 500

/-- `MIN_HALF_PERIOD` of rule R8, in ms. -/
abbrev minHalfPeriod : Nat := 1

/-- `DUTY` of rules R8 and R143, in percent. -/
abbrev duty : Byte := 50#8

/-- `TICK_PERIOD_MS` of rule R8. -/
abbrev tickPeriodMs : Nat := 1000

/-- FREE VALUE (log entry 4). `channel_level` of rule R150: the level on the pad under the channel backend, at the `n`-th draw. The spec
gives it no phase, no resolution and no jitter, so nothing constrains it. -/
opaque channelLevel : Nat → Bool

/-- FREE VALUE (log entry 5). Which of the two lines fires first when both are due together and no pending input says so (rule R237: the
order is free). `true` is the tick line. -/
opaque tickLineFirst : Nat → Bool

/-- FREE VALUE (log entry 3). The unspecified elements that an assertion of `rst` during a run draws (rules R52 and R292). -/
opaque resetDraw : Nat → Unspecified

/-- The device variant that `State.reset` instantiates. DESIGN CHOICE (log entry 1): the per-device defaults of rule R8, and for the OPEN
parameters the example configuration X of `95_test_vectors.md`. No statement rests on it. -/
def device : Params where
  fMin := 66#16
  fMax := 150#16
  rpmMax := 4500#16
  frameId := 0x01#8
  frameCmd := 0x02#8
  modes := [⟨0#16, 0#16, 0#16⟩, ⟨100#16, 2#16, 30#16⟩, ⟨200#16, 4#16, 0#16⟩, ⟨50#16, 1#16, 2#16⟩]
  waveBackend := .polled
  onExpiryTarget := .standby
  tSettleNs := 0

end Config

end Sys2Proof
end

