-- ==== Sys2Proof/WellFormed.lean ====
section
/-! DEFINITION. What is checked before anything runs: the constraints of rule R9 on the parameters. A command needs no check of its own:
its operands carry their widths (rule R94), and every value of every operand is a command. -/
namespace Sys2Proof

/-- Every command is well-formed: `idx` and `rpm` are `u16` with every value legal, `b` is a `bool` (rule R94). -/
def Instr.wellFormed : Instr → Bool
  | .powerOn => true
  | .powerOff => true
  | .applyMode _ => true
  | .setLimit _ => true
  | .applyProfile => true
  | .sample => true
  | .tick => true
  | .drainExpiry => true
  | .buildSetSpeed _ => true

/-- The frequency range of rule R9: `1 <= F_MIN <= F_MAX <= 65535` (the upper bound is `F_MAX`'s width). -/
def Params.frequencyRangeOk (p : Params) : Bool := decide (1 ≤ p.fMin.toNat) && decide (p.fMin.toNat ≤ p.fMax.toNat)

/-- The size of the mode table of rule R9: `1 <= N_MODES <= 65536`. -/
def Params.modeTableOk (p : Params) : Bool := decide (1 ≤ p.modes.length) && decide (p.modes.length ≤ 65536)

/-- The settling delay of rule R8 is "shorter than 1 ms". -/
def Params.settleOk (p : Params) : Bool := decide (p.tSettleNs < 1000000)

/-- The checks of rules R8 and R9. The rest of rule R9 (`RPM_MAX <= 65535`, each field of `MODE_TABLE` fits its width) is carried by the
types of the fields. -/
def Params.valid (p : Params) : Bool := p.frequencyRangeOk && p.modeTableOk && p.settleOk

end Sys2Proof
end

