-- ==== Sys2Proof/Machine/State.lean ====
section
/-! DEFINITION. The state of the block (`10_state.md`), its ports, and the pending steps of the agents around it; the reasons a step stops;
the state after reset (rule R52). -/
namespace Sys2Proof
namespace Machine

/-- `msm_state` of rule R28. The value 3 of its `u2` encoding is never held (item I10). -/
inductive MsmState where
  | safe
  | standby
  | running
  deriving DecidableEq, Repr

/-- `pin_state` of rule R33. The value 3 of its `u2` encoding is never held (item I10). -/
inductive PinState where
  | hiZ
  | drivenLow
  | activeWaveform
  deriving DecidableEq, Repr

/-- The pin events of rule R45. -/
inductive PinEvent where
  | waveStop
  | settle
  | setHiZ
  | setDrivenLow
  | waveStart (f : Half)
  deriving DecidableEq, Repr

/-- `frame_buf` of rule R43, byte 0 first (rule R96). -/
structure Frame where
  id : Byte
  cmd : Byte
  payloadLsb : Byte
  payloadMsb : Byte
  checksum : Byte
  deriving DecidableEq, Repr

/-- A pending step of one of the agents around the block (rules R12, R46, R101). The list of them in `State` says which agent moves next, so
a statement about every list is a statement about every interleaving (rule R73, log entry 2). -/
inductive Event where
  /-- The host reads `bits` bits at byte offset `off` of the register space (rules R64 and R66). -/
  | regRead (bits off : Nat)
  /-- The host writes `v`, `bits` bits wide, at byte offset `off` (rules R64 and R67); at `CMD` this is a command (rule R71). -/
  | regWrite (bits off : Nat) (v : Word)
  /-- The tick line's turn: it fires if it is due (rule R232). -/
  | tickFire
  /-- The expiry line's turn: it fires if it is due (rule R233). -/
  | expiryFire
  /-- A pulse on `ms_pulse` (rules R40 and R235). Lines that are due fire before it (rule R236), the tick line first if `tickFirst`. -/
  | msPulse (tickFirst : Bool)
  /-- The statement `AT t` of rule R101: time runs and due lines fire until `now_ms = t` and nothing is due (rule R236). -/
  | runUntil (t : Word) (tickFirst : Bool)
  /-- The environment sets the raw level of the input pad (rules R46 and R267). -/
  | pinIn (level : Bool)
  /-- The waveform channel changes the level it drives (rules R12 and R150). -/
  | channelMoves
  /-- The environment asserts or releases `rst` (rule R290). -/
  | rst (asserted : Bool)
  deriving DecidableEq, Repr

/-- The machine. Field by field: INVENTORY.md, heading State. -/
structure State where
  /-- The parameters of rule R8 (model's own field: the spec passes them as an argument). No step changes them (rule R296). -/
  params : Params
  /-- Port `rst` of rule R46. -/
  rst : Bool
  /-- Port `pin_in` of rule R46: the raw level of the input pad. -/
  pinIn : Bool
  /-- Pending steps of the host and the environment, the next one first (model's own field, log entry 2). -/
  inbox : List Event
  /-- The data the host's last register read returned (rule R66; the read data of the bus of rule R46). -/
  readData : Word
  /-- How many free values have been drawn (model's own field, log entry 4). -/
  draws : Nat
  /-- `output_level`, rule R21. -/
  outputLevel : Bool
  /-- `input_level`, rule R22. -/
  inputLevel : Bool
  /-- `last_input_change_ms`, rule R23. -/
  lastInputChangeMs : Word
  /-- `next_toggle_ms`, rule R24. -/
  nextToggleMs : Word
  /-- `waveform_phase`, rule R25. -/
  waveformPhase : Bool
  /-- `current_frequency_hz`, rule R26. -/
  currentFrequencyHz : Half
  /-- `armed`, rule R27. -/
  armed : Bool
  /-- `msm_state`, rule R28. -/
  msmState : MsmState
  /-- `active_mode_index`, rule R29. -/
  activeModeIndex : Half
  /-- `remaining_ms`, rule R30. -/
  remainingMs : Word
  /-- `timeout_expired_flag`, rule R31. -/
  timeoutExpired : Bool
  /-- `limit_enabled`, rule R32. -/
  limitEnabled : Bool
  /-- `pin_state`, rule R33. -/
  pinState : PinState
  /-- The active profile `P`, rule R34. -/
  profile : Profile
  /-- The staged profile, rule R35. -/
  staged : Profile
  /-- `last_raw`, rule R37. -/
  lastRaw : Bool
  /-- `db_init`, rule R37. -/
  dbInit : Bool
  /-- `tick_armed`, rule R38. -/
  tickArmed : Bool
  /-- `tick_next_ms`, rule R38. -/
  tickNextMs : Word
  /-- `expiry_armed`, rule R39. -/
  expiryArmed : Bool
  /-- `expiry_deadline_ms`, rule R39. -/
  expiryDeadlineMs : Word
  /-- `now_ms`, rule R40. -/
  nowMs : Word
  /-- `ch_running`, rule R41. -/
  chRunning : Bool
  /-- `ch_freq_hz`, rule R41. -/
  chFreqHz : Half
  /-- `ch_duty`, rule R41. -/
  chDuty : Byte
  /-- `indicator_hz`, rule R42. -/
  indicatorHz : Half
  /-- `frame_buf`, rule R43. -/
  frameBuf : Frame
  /-- `cmd_ignored`, rule R44. -/
  cmdIgnored : Bool
  /-- `pin_trace`, rule R45: a model history, oldest event first. -/
  pinTrace : List PinEvent
  deriving DecidableEq, Repr

/-- Reasons a step stops with a fault: none. The block raises no exception (rule R260), and a failing pin driver or timer service has no step
(rules R129 and R263), so no constructor exists and nobody raises one. -/
inductive Fault where
  deriving DecidableEq, Repr

/-- Reasons a step is refused. -/
inductive Refusal where
  /-- Raised by `exec` for an instruction without a meaning. Safe. No arm raises it: every command has its meaning. -/
  | notModelled (mnemonic : String)
  /-- Raised by `step` alone, for parameters that break rule R9 ("a model checks when it is instantiated and refuses otherwise"). Safe: no
  such device exists. -/
  | invalidParameters
  deriving DecidableEq, Repr

/-- The state while `rst` is asserted and at the first step after it (rule R52), for a device variant `p` and the values `u` that the reset
draws for the unspecified elements. The ports and the pending steps are not elements of the block: here every port reads 0 and no step
is pending. -/
def State.resetFor (p : Params) (u : Unspecified) : State where
  params := p
  rst := false
  pinIn := false
  inbox := []
  readData := 0#32
  draws := 0
  outputLevel := false
  inputLevel := false
  lastInputChangeMs := 0#32
  nextToggleMs := 0#32
  waveformPhase := false
  currentFrequencyHz := 0#16
  armed := false
  msmState := .safe
  activeModeIndex := 0#16
  remainingMs := 0#32
  timeoutExpired := false
  limitEnabled := u.limitEnabled
  pinState := .hiZ
  profile := u.profile
  staged := u.staged
  lastRaw := false
  dbInit := false
  tickArmed := false
  tickNextMs := 0#32
  expiryArmed := false
  expiryDeadlineMs := 0#32
  nowMs := 0#32
  chRunning := false
  chFreqHz := 0#16
  chDuty := 0#8
  indicatorHz := 0#16
  frameBuf := ⟨0x00#8, 0x00#8, 0x00#8, 0x00#8, 0x00#8⟩
  cmdIgnored := false
  pinTrace := []

/-- The values that `State.reset` names for the elements rule R52 leaves unspecified. DESIGN CHOICE (log entry 3): zero. -/
def namedAtReset : Unspecified where
  limitEnabled := false
  profile := ⟨false, 0#16, 0#16, 0#8, false, false⟩
  staged := ⟨false, 0#16, 0#16, 0#8, false, false⟩

/-- The machine right after reset (rules R52 and R291). -/
def State.reset : State := State.resetFor Config.device namedAtReset

end Machine
end Sys2Proof
end

