-- ==== Sys2Proof/Machine/Ops.lean ====
section
/-! DEFINITION. The operations the commands share: the arithmetic of rules R13 to R18, the PinSafetyController (`40_pin_safety.md`), the
countdown operations (rules R183 and R184), the polled generator (rule R144) and the two forced transitions (rules R262 and R269), which are
all the block has in place of taking an exception. Nothing is saved, so there is no return operation (rule R270). -/
namespace Sys2Proof
namespace Machine

/-- `clamp_freq(f)` of rule R13. -/
def clampFreq (p : Params) (f : Half) : Half :=
  if f < p.fMin then p.fMin else if p.fMax < f then p.fMax else f

/-- `half_period(f)` of rule R14, in ms: the quotient is rounded toward zero. -/
def halfPeriod (p : Params) (f : Half) : Nat :=
  max Config.minHalfPeriod (Config.halfPeriodNum / (clampFreq p f).toNat)

/-- A duration added to a time wraps modulo 2^32 (rule R15). -/
def afterMs (t : Word) (ms : Nat) : Word := t + BitVec.ofNat 32 ms

/-- The elapsed time of the debounce filter is a modular difference (rule R15). -/
def elapsedMs (now since : Word) : Word := now - since

/-- `sat_sub_1000(r)` of rule R16. -/
def satSub1000 (r : Word) : Word := if 1000#32 ≤ r then r - 1000#32 else 0#32

/-- The configured duration of rule R16: `zext_32(T) * 1000`. -/
def durationMs (m : Mode) : Word := m.defaultTimeoutSeconds.setWidth 32 * 1000#32

/-- `clamp_rpm(r)` of rule R18: there is no lower clamp. -/
def clampRpm (p : Params) (r : Half) : Half := if p.rpmMax < r then p.rpmMax else r

/-- `checksum(id, cmd, lsb, msb)` of rule R17, the sum taken in unbounded integers. -/
def checksum (id cmd lsb msb : Byte) : Byte :=
  BitVec.ofNat 8 ((0x100 - ((id.toNat + cmd.toNat + lsb.toNat + msb.toNat) &&& 0xFF)) &&& 0xFF)

/-- `trace += e` of rule R11. -/
def logPin (e : PinEvent) (s : State) : State := { s with pinTrace := s.pinTrace ++ [e] }

/-- Whether `wave_stop` has a running waveform channel to stop (rule R121). -/
def channelToStop (s : State) : Bool := decide (s.params.waveBackend = .channel) && s.chRunning

/-- `wave_stop()` of rule R121. The settling delay is the event `settle` and no advance of time (rule R125). -/
def waveStop (s : State) : State :=
  { s with
    pinTrace := s.pinTrace ++ (if channelToStop s then [.waveStop, .settle] else [.waveStop])
    chRunning := if channelToStop s then false else s.chRunning
    waveformPhase := false
    outputLevel := false }

/-- `to_high_impedance()` of rule R122. -/
def toHighImpedance (s : State) : State :=
  logPin .setHiZ { waveStop s with pinState := .hiZ }

/-- `to_driven_low()` of rule R123. -/
def toDrivenLow (s : State) : State :=
  logPin .setDrivenLow { waveStop s with pinState := .drivenLow }

/-- The channel's `start(fc, duty=50)` (rules R124 and R149). -/
def startChannel (fc : Half) (s : State) : State :=
  { s with chFreqHz := fc, chDuty := Config.duty, chRunning := true }

/-- The start of the polled wave in its low half-period (rule R124). -/
def startPolled (fc : Half) (s : State) : State :=
  { s with
    waveformPhase := false
    outputLevel := false
    nextToggleMs := afterMs s.nowMs (halfPeriod s.params fc) }

/-- `to_active_waveform(f)` of rule R124. -/
def toActiveWaveform (f : Half) (s : State) : State :=
  let fc := clampFreq s.params f
  let stopped := { waveStop s with pinState := .activeWaveform }
  let started := match s.params.waveBackend with
    | .channel => startChannel fc stopped
    | .polled => startPolled fc stopped
  logPin (.waveStart fc) started

/-- The pair of writes that every operation taking the output away makes: `S.armed <- 0` and `S.current_frequency_hz <- 0`. -/
def disarm (s : State) : State := { s with armed := false, currentFrequencyHz := 0#16 }

/-- `cancel_countdown()` of rule R183. -/
def cancelCountdown (s : State) : State :=
  { s with tickArmed := false, expiryArmed := false, remainingMs := 0#32, timeoutExpired := false }

/-- Entry `idx` of `MODE_TABLE`. Outside the table, which no run reaches (rule R29), it is the entry of zeros, "no waveform" and "unlimited"
(log entry 8). -/
def modeAt (p : Params) (idx : Half) : Mode := p.modes.getD idx.toNat ⟨0#16, 0#16, 0#16⟩

/-- The three conditions of `start_or_restart_countdown` (rule R184): `RUNNING`, the limit flag, and a duration above 0. `armed` is not one. -/
def countdownRuns (s : State) : Bool :=
  decide (s.msmState = .running) && s.limitEnabled && decide (0#16 < (modeAt s.params s.activeModeIndex).defaultTimeoutSeconds)

/-- `start_or_restart_countdown()` of rule R184. -/
def startOrRestartCountdown (s : State) : State :=
  if countdownRuns s then
    { s with
      remainingMs := durationMs (modeAt s.params s.activeModeIndex)
      timeoutExpired := false
      tickArmed := true
      tickNextMs := afterMs s.nowMs Config.tickPeriodMs
      expiryArmed := true
      expiryDeadlineMs := s.nowMs + durationMs (modeAt s.params s.activeModeIndex) }
  else cancelCountdown s

/-- `gen_tick()` of rule R144: the comparison is the plain unsigned one, and one flip at most (rule R145). -/
def genTick (s : State) : State :=
  let flips := decide (s.nextToggleMs ≤ s.nowMs)
  let phase := if flips then !s.waveformPhase else s.waveformPhase
  { s with
    waveformPhase := phase
    nextToggleMs := if flips then afterMs s.nextToggleMs (halfPeriod s.params s.currentFrequencyHz) else s.nextToggleMs
    outputLevel := phase && s.armed }

/-- The output side of the interlock trip (rules R195 and R269): the waveform is stopped, then the pin is driven low. -/
def tripOutput (s : State) : State := disarm (toDrivenLow s)

/-- The interlock trip of a blocked `TICK` in `RUNNING` (rule R195): a second trip only cancels the countdown again. -/
def interlockTrip (s : State) : State := cancelCountdown (if s.armed then tripOutput s else s)

/-- `on_timeout_expired()` of rule R196: the forced transition to `ON_EXPIRY_TARGET` (rule R198). -/
def timeoutTransition (s : State) : State :=
  let out := match s.params.onExpiryTarget with
    | .standby => { toDrivenLow s with msmState := .standby }
    | .safe => { toHighImpedance s with msmState := .safe }
  { cancelCountdown (disarm out) with indicatorHz := 0#16 }

end Machine
end Sys2Proof
end

