-- ==== Sys2Proof/Machine/Flags.lean ====
section
/-! DEFINITION. The one-bit flags that a command computes (rule R51): the report `cmd_ignored`, the interlock's answer, and the flags of the
debounce filter. -/
namespace Sys2Proof
namespace Machine

/-- `ignore()` of rule R11: `S.cmd_ignored <- 1` and no other write. -/
def ignoreCommand (s : State) : State := { s with cmdIgnored := true }

/-- The last write of every executed command (rule R99): `S.cmd_ignored <- 0`. -/
def executed (s : State) : State := { s with cmdIgnored := false }

/-- `allowed_to_drive(stable, en)` of rule R168. -/
def allowedToDrive (stable en : Bool) : Bool := !(en && stable)

/-- `blocked` of rule R168: an input level of 1 is asserted, with no inversion (rule R167). -/
def blocked (s : State) : Bool := !allowedToDrive s.inputLevel s.profile.interlockEnabled

/-- The first invocation of the debounce filter (rule R163). -/
def firstSample (s : State) : State :=
  { s with dbInit := true, lastRaw := s.pinIn, inputLevel := s.pinIn, lastInputChangeMs := s.nowMs }

/-- A raw-level change is recorded (rule R162). -/
def recordRawChange (s : State) : State :=
  if s.pinIn ≠ s.lastRaw then { s with lastRaw := s.pinIn, lastInputChangeMs := s.nowMs } else s

/-- Whether the window has passed: a modular elapsed time against `zext_32(P.debounce_ms)` (rules R15 and R162). -/
def windowPassed (s : State) : Bool :=
  decide (s.profile.debounceMs.setWidth 32 ≤ elapsedMs s.nowMs s.lastInputChangeMs)

/-- The stable level follows the raw level once the window has passed (rule R162). -/
def adoptStableLevel (s : State) : State :=
  if s.lastRaw ≠ s.inputLevel ∧ windowPassed s = true then { s with inputLevel := s.lastRaw } else s

end Machine
end Sys2Proof
end

