-- ==== Sys2Proof/Machine/Operands.lean ====
section
/-! DEFINITION. What a command's operand and the staged registers stand for: the index of a mode (rules R94 and R187), the payload bytes of
a speed (rules R18 and R97), and the six fields of `PROF0` and `PROF1` (rules R69, R70 and R194). -/
namespace Sys2Proof
namespace Machine

/-- `idx < N_MODES`, compared unsigned (rule R94). -/
def modeExists (p : Params) (idx : Half) : Bool := decide (idx.toNat < p.modes.length)

/-- `lsb = r[7:0]` (rules R18 and R97). -/
def payloadLsb (r : Half) : Byte := r.extractLsb' 0 8

/-- `msb = r[15:8]` (rules R18 and R97). -/
def payloadMsb (r : Half) : Byte := r.extractLsb' 8 8

/-- The frame of `BUILD_SET_SPEED rpm` (rules R96 and R251). -/
def setSpeedFrame (p : Params) (rpm : Half) : Frame :=
  let r := clampRpm p rpm
  ⟨p.frameId, p.frameCmd, payloadLsb r, payloadMsb r, checksum p.frameId p.frameCmd (payloadLsb r) (payloadMsb r)⟩

/-- What a write of `v` to `PROF0` stores (rule R69): every value of every field is legal, bits 7:3 are ignored. -/
def writeProf0 (v : Word) (q : Profile) : Profile :=
  { q with
    activeHigh := v.getLsbD 0
    interlockEnabled := v.getLsbD 1
    bootAllOff := v.getLsbD 2
    dutyPercent := v.extractLsb' 8 8
    debounceMs := v.extractLsb' 16 16 }

/-- What a write of `v` to `PROF1` stores (rule R70): the frequency unclamped, bits 31:16 ignored. -/
def writeProf1 (v : Word) (q : Profile) : Profile := { q with frequencyHz := v.extractLsb' 0 16 }

/-- The profile that `APPLY_PROFILE` latches from the staged one: the frequency is clamped (rule R194). -/
def latchedProfile (p : Params) (q : Profile) : Profile := { q with frequencyHz := clampFreq p q.frequencyHz }

end Machine
end Sys2Proof
end

