-- ==== Sys2Proof/Machine/Bus.lean ====
section
/-! DEFINITION. The register space (`20_memory.md`): the sixteen registers, the one access it accepts, what each register reads as, what a
write stores; and the output ports (rules R46 and R47). A write to `CMD` is in Events.lean, since it executes a command. -/
namespace Sys2Proof
namespace Machine

/-- The sixteen registers of rule R62. -/
inductive Reg where
  | cmd
  | status
  | prof0
  | prof1
  | curFreq
  | activeMode
  | remainingMs
  | nowMs
  | nextToggleMs
  | lastChangeMs
  | indHz
  | frameLo
  | frameHi
  | actProf0
  | actProf1
  | reserved
  deriving DecidableEq, Repr

/-- The byte offset of a register (rule R62). -/
def offsetOf : Reg → Nat
  | .cmd => 0x00
  | .status => 0x04
  | .prof0 => 0x08
  | .prof1 => 0x0C
  | .curFreq => 0x10
  | .activeMode => 0x14
  | .remainingMs => 0x18
  | .nowMs => 0x1C
  | .nextToggleMs => 0x20
  | .lastChangeMs => 0x24
  | .indHz => 0x28
  | .frameLo => 0x2C
  | .frameHi => 0x30
  | .actProf0 => 0x34
  | .actProf1 => 0x38
  | .reserved => 0x3C

/-- The registers in the order of their offsets (rules R61 and R62). -/
def registers : List Reg :=
  [.cmd, .status, .prof0, .prof1, .curFreq, .activeMode, .remainingMs, .nowMs, .nextToggleMs, .lastChangeMs, .indHz,
   .frameLo, .frameHi, .actProf0, .actProf1, .reserved]

/-- The register that an access of `bits` bits at byte offset `off` reaches: an aligned 32-bit access below `0x40` is the only one accepted
(rule R64). -/
def accessed (bits off : Nat) : Option Reg :=
  if bits = 32 ∧ off % 4 = 0 ∧ off < 0x40 then registers[off / 4]? else none

/-- A one-bit field at bit `n` of a register. -/
def bitAt (n : Nat) (b : Bool) : Word := (BitVec.ofBool b).setWidth 32 <<< n

/-- The numeric encoding of `msm_state` (rule R28). -/
def msmCode : MsmState → Word
  | .safe => 0#32
  | .standby => 1#32
  | .running => 2#32

/-- The numeric encoding of `pin_state` (rule R33). -/
def pinCode : PinState → Word
  | .hiZ => 0#32
  | .drivenLow => 1#32
  | .activeWaveform => 2#32

/-- `STATUS` of rule R68. -/
def statusWord (s : State) : Word :=
  msmCode s.msmState ||| pinCode s.pinState <<< 2 ||| bitAt 4 s.armed ||| bitAt 5 s.outputLevel ||| bitAt 6 s.inputLevel
    ||| bitAt 7 s.waveformPhase ||| bitAt 8 s.limitEnabled ||| bitAt 9 s.timeoutExpired ||| bitAt 10 s.tickArmed
    ||| bitAt 11 s.expiryArmed ||| bitAt 12 s.dbInit ||| bitAt 13 s.lastRaw ||| bitAt 14 s.chRunning ||| bitAt 15 s.cmdIgnored

/-- The layout of `PROF0` and `ACT_PROF0` (rules R69 and R80): bits 7:3 read 0. -/
def prof0Word (q : Profile) : Word :=
  bitAt 0 q.activeHigh ||| bitAt 1 q.interlockEnabled ||| bitAt 2 q.bootAllOff ||| q.dutyPercent.setWidth 32 <<< 8
    ||| q.debounceMs.setWidth 32 <<< 16

/-- The layout of `PROF1` and `ACT_PROF1` (rules R70 and R80): bits 31:16 read 0. -/
def prof1Word (q : Profile) : Word := q.frequencyHz.setWidth 32

/-- `FRAME_LO` of rule R72: frame bytes 3 down to 0. -/
def frameLoWord (f : Frame) : Word := f.payloadMsb ++ f.payloadLsb ++ f.cmd ++ f.id

/-- `FRAME_HI` of rule R72: the checksum. -/
def frameHiWord (f : Frame) : Word := f.checksum.setWidth 32

/-- What a register reads as (rules R65, R66, R68 to R72 and R80). -/
def registerValue (r : Reg) (s : State) : Word :=
  match r with
  | .cmd => 0#32
  | .status => statusWord s
  | .prof0 => prof0Word s.staged
  | .prof1 => prof1Word s.staged
  | .curFreq => s.currentFrequencyHz.setWidth 32
  | .activeMode => s.activeModeIndex.setWidth 32
  | .remainingMs => s.remainingMs
  | .nowMs => s.nowMs
  | .nextToggleMs => s.nextToggleMs
  | .lastChangeMs => s.lastInputChangeMs
  | .indHz => s.indicatorHz.setWidth 32
  | .frameLo => frameLoWord s.frameBuf
  | .frameHi => frameHiWord s.frameBuf
  | .actProf0 => prof0Word s.profile
  | .actProf1 => prof1Word s.profile
  | .reserved => 0#32

/-- The byte of the register space at byte offset `k`: `v[7:0]` of a register is at its lowest offset (rule R63). No access moves one byte
(rule R64). -/
def byteAt (k : Nat) (s : State) : Byte :=
  match accessed 32 (k / 4 * 4) with
  | some r => (registerValue r s).extractLsb' (8 * (k % 4)) 8
  | none => 0x00#8

/-- The value `RegRead(off)` returns (rule R66): a refused read returns 0 (rule R64). -/
def readValue (bits off : Nat) (s : State) : Word :=
  match accessed bits off with
  | some r => registerValue r s
  | none => 0#32

/-- A read returns its value to the host and writes nothing of the block (rule R66). -/
def busRead (bits off : Nat) (s : State) : State := { s with readData := readValue bits off s }

/-- What an accepted write to a register other than `CMD` does (rule R67): it stores into the staged profile or has no effect. -/
def writeRegister (r : Reg) (v : Word) (s : State) : State :=
  match r with
  | .prof0 => { s with staged := writeProf0 v s.staged }
  | .prof1 => { s with staged := writeProf1 v s.staged }
  | _ => s

/-- The port `pad_oe` (rule R47). -/
def padOe (s : State) : Bool := decide (s.pinState ≠ .hiZ)

/-- The port `pad_out` (rule R47), `none` while the pad is not driven. Under the channel backend the level is a free value (rule R150). -/
def padOut (s : State) : Option Bool :=
  match s.pinState with
  | .hiZ => none
  | .drivenLow => some false
  | .activeWaveform =>
    match s.params.waveBackend with
    | .polled => some (if s.profile.activeHigh then s.outputLevel else !s.outputLevel)
    | .channel => some (Config.channelLevel s.draws)

/-- The port `ind_hz` (rule R46). -/
def indHz (s : State) : Half := s.indicatorHz

end Machine
end Sys2Proof
end

