-- ==== Sys2Proof/Machine/Framer.lean ====
section
/-! DEFINITION. The ProtocolFramer (`45_protocol_framer.md`): `BUILD_SET_SPEED`. -/
namespace Sys2Proof
namespace Machine

/-- `BUILD_SET_SPEED rpm`, rule R251: it writes `frame_buf` and `cmd_ignored` and nothing else. -/
def execBuildSetSpeed (rpm : Half) (s : State) : Host.Outcome State Fault Refusal :=
  .next (executed { s with frameBuf := setSpeedFrame s.params rpm })

end Machine
end Sys2Proof
end

