-- ==== Sys2Proof/Machine/Mode.lean ====
section
/-! DEFINITION. The ModeStateMachine's commands that the host issues to change the mode or the configuration (`43_mode_state_machine.md`):
`POWER_ON`, `POWER_OFF`, `APPLY_MODE`, `SET_LIMIT`, `APPLY_PROFILE`. -/
namespace Sys2Proof
namespace Machine

/-- `POWER_ON`, rule R185: the same sequence from every state. -/
def execPowerOn (s : State) : Host.Outcome State Fault Refusal :=
  .next (executed { cancelCountdown (disarm (toDrivenLow s)) with indicatorHz := 0#16, msmState := .standby })

/-- `POWER_OFF`, rule R192. -/
def execPowerOff (s : State) : Host.Outcome State Fault Refusal :=
  .next (executed { cancelCountdown (disarm (toHighImpedance s)) with indicatorHz := 0#16, msmState := .safe })

/-- `APPLY_MODE`, the zero-frequency case (rule R188): the interlock is not consulted. -/
def selectNoWaveform (s : State) : State := { disarm (toDrivenLow s) with msmState := .standby }

/-- `APPLY_MODE`, the blocked case (rule R190): the mode is selected, the waveform is not started. -/
def selectBlocked (s : State) : State := { disarm (toDrivenLow s) with msmState := .running }

/-- `APPLY_MODE`, the waveform case (rule R189): the one place that sets `armed`. -/
def selectWaveform (f : Half) (s : State) : State :=
  { toActiveWaveform f s with armed := true, currentFrequencyHz := clampFreq s.params f, msmState := .running }

/-- An accepted `APPLY_MODE idx` (rule R187): the index, one of the three cases, the indicator, the countdown. -/
def selectMode (idx : Half) (s : State) : State :=
  let m := modeAt s.params idx
  let s1 := { s with activeModeIndex := idx }
  let s2 :=
    if m.frequencyHz = 0#16 then selectNoWaveform s1
    else if blocked s1 then selectBlocked s1
    else selectWaveform m.frequencyHz s1
  executed (startOrRestartCountdown { s2 with indicatorHz := m.indicatorBlinkHz })

/-- `APPLY_MODE idx`, rule R187: ignored for `idx >= N_MODES` and in `SAFE`. -/
def execApplyMode (idx : Half) (s : State) : Host.Outcome State Fault Refusal :=
  .next (if modeExists s.params idx = false ∨ s.msmState = .safe then ignoreCommand s else selectMode idx s)

/-- `SET_LIMIT b`, rule R193: a change of the flag while `RUNNING` cancels or restarts the countdown. -/
def execSetLimit (b : Bool) (s : State) : Host.Outcome State Fault Refusal :=
  let s1 := { s with limitEnabled := b }
  .next (executed (
    if s.msmState = .running then
      if s.limitEnabled = true ∧ b = false then cancelCountdown s1
      else if s.limitEnabled = false ∧ b = true then startOrRestartCountdown s1
      else s1
    else s1))

/-- `APPLY_PROFILE`, rule R194: in `SAFE` the pin is re-initialised to Hi-Z, elsewhere the machine is put in `STANDBY`. -/
def execApplyProfile (s : State) : Host.Outcome State Fault Refusal :=
  let s1 := { s with profile := latchedProfile s.params s.staged }
  .next (executed (
    if s.msmState = .safe then toHighImpedance s1
    else { cancelCountdown (disarm (toDrivenLow s1)) with indicatorHz := 0#16, msmState := .standby }))

end Machine
end Sys2Proof
end

