-- ==== Sys2Proof/Machine/Poll.lean ====
section
/-! DEFINITION. The commands of the host's poll loop: `SAMPLE` (`42_debounce_interlock.md`), `TICK` and `DRAIN_EXPIRY`
(`43_mode_state_machine.md`). -/
namespace Sys2Proof
namespace Machine

/-- `SAMPLE`, rule R162: a change is recorded first and the window tested second. -/
def execSample (s : State) : Host.Outcome State Fault Refusal :=
  .next (executed (if s.dbInit = false then firstSample s else adoptStableLevel (recordRawChange s)))

/-- `TICK`, rule R195: a blocked tick in `RUNNING` trips, else a running polled waveform is ticked. -/
def execTick (s : State) : Host.Outcome State Fault Refusal :=
  .next (executed (
    if blocked s = true ∧ s.msmState = .running then interlockTrip s
    else if s.msmState = .running ∧ s.pinState = .activeWaveform ∧ s.params.waveBackend = .polled then genTick s
    else s))

/-- `DRAIN_EXPIRY`, rule R196: the flag is tested and cleared in one step, and the output is touched only in `RUNNING`. -/
def execDrainExpiry (s : State) : Host.Outcome State Fault Refusal :=
  .next (executed (
    if s.timeoutExpired = true then
      let s1 := { s with timeoutExpired := false }
      if s.msmState = .running then timeoutTransition s1 else s1
    else s))

end Machine
end Sys2Proof
end

