-- ==== Sys2Proof/Machine/Dispatch.lean ====
section
/-! DEFINITION. One arm per command of the opcode map (rule R93). -/
namespace Sys2Proof
namespace Machine

/-- The effect of one command (rule R93, column "semantics"). -/
def exec (i : Instr) (s : State) : Host.Outcome State Fault Refusal :=
  match i with
  | .powerOn => Sys2Proof.Machine.execPowerOn s
  | .powerOff => Sys2Proof.Machine.execPowerOff s
  | .applyMode idx => Sys2Proof.Machine.execApplyMode idx s
  | .setLimit b => Sys2Proof.Machine.execSetLimit b s
  | .applyProfile => Sys2Proof.Machine.execApplyProfile s
  | .sample => Sys2Proof.Machine.execSample s
  | .tick => Sys2Proof.Machine.execTick s
  | .drainExpiry => Sys2Proof.Machine.execDrainExpiry s
  | .buildSetSpeed rpm => Sys2Proof.Machine.execBuildSetSpeed rpm s

end Machine
end Sys2Proof
end

