-- ==== Sys2Proof/Machine/Timer.lean ====
section
/-! DEFINITION. The steps that are not commands (`44_countdown_timer.md`): the firing of the two lines and the advance of time. -/
namespace Sys2Proof
namespace Machine

/-- `TickFire` is enabled (rule R232). -/
def tickDue (s : State) : Bool := s.tickArmed && decide (s.nowMs = s.tickNextMs)

/-- `ExpiryFire` is enabled (rule R233). -/
def expiryDue (s : State) : Bool := s.expiryArmed && decide (s.nowMs = s.expiryDeadlineMs)

/-- `TickFire` of rule R232: the line has no shutoff authority. -/
def tickFire (s : State) : State :=
  { s with remainingMs := satSub1000 s.remainingMs, tickNextMs := afterMs s.tickNextMs Config.tickPeriodMs }

/-- `ExpiryFire` of rule R233: it sets the flag and nothing else, once. -/
def expiryFire (s : State) : State := { s with timeoutExpired := true, expiryArmed := false }

/-- `TimeAdvance` of rule R235. -/
def timeAdvance (s : State) : State := { s with nowMs := s.nowMs + 1#32 }

/-- The tick line's turn: a line that is not due does not fire (rule R231). -/
def tickTurn (s : State) : State := if tickDue s then tickFire s else s

/-- The expiry line's turn: a line that is not due does not fire (rule R231). -/
def expiryTurn (s : State) : State := if expiryDue s then expiryFire s else s

/-- Some line is due: time may not advance (rule R236). -/
def lineDue (s : State) : Bool := tickDue s || expiryDue s

/-- One due line fires; when both are due together the caller says which is first (rule R237). -/
def fireDueLine (tickFirst : Bool) (s : State) : State :=
  if tickDue s && (tickFirst || !expiryDue s) then tickFire s else expiryTurn s

/-- Time passes: a due line fires, and only when none is due does `now_ms` advance (rules R235 and R236). -/
def timePasses (tickFirst : Bool) (s : State) : State :=
  if lineDue s then fireDueLine tickFirst s else timeAdvance s

end Machine
end Sys2Proof
end

