-- ==== Sys2Proof/Machine/Events.lean ====
section
/-! DEFINITION. The steps of rule R12, one for each pending event, and the step the block makes when none is pending. -/
namespace Sys2Proof
namespace Machine

/-- The execution of a command word (rules R71 and R99): `RESERVED` executes `ignore()`. -/
def runCommandWord (v : Word) (s : State) : Host.Outcome State Fault Refusal :=
  match decode v with
  | .command i => exec i s
  | .reserved _ => .next (ignoreCommand s)

/-- `RegWrite(off, v)` of rule R67: a refused access has no effect (rule R64). -/
def busWrite (bits off : Nat) (v : Word) (s : State) : Host.Outcome State Fault Refusal :=
  match accessed bits off with
  | some .cmd => runCommandWord v s
  | some r => .next (writeRegister r v s)
  | none => .next s

/-- The event stays pending. -/
def keepPending (e : Event) (s : State) : State := { s with inbox := e :: s.inbox }

/-- A pulse on `ms_pulse`: it waits while a line is due (rule R236). -/
def pulse (tickFirst : Bool) (s : State) : State :=
  if lineDue s then keepPending (.msPulse tickFirst) (fireDueLine tickFirst s) else timeAdvance s

/-- One round of the statement `AT t` (rule R236): fire what is due; if `now_ms = t` stop; else advance. -/
def untilTime (t : Word) (tickFirst : Bool) (s : State) : State :=
  if lineDue s = false ∧ s.nowMs = t then s else keepPending (.runUntil t tickFirst) (timePasses tickFirst s)

/-- The assertion of `rst` (rule R290): every element takes its reset value, the unspecified ones a value drawn at this reset (rule R52).
The parameters, the ports and the pending steps are not elements. -/
def assertReset (s : State) : State :=
  { State.resetFor s.params (Config.resetDraw s.draws) with
    rst := true, pinIn := s.pinIn, inbox := s.inbox, readData := s.readData, draws := s.draws }

/-- An event taken while `rst` is released. -/
def takeEvent (e : Event) (s : State) : Host.Outcome State Fault Refusal :=
  match e with
  | .regRead bits off => .next (busRead bits off s)
  | .regWrite bits off v => busWrite bits off v s
  | .tickFire => .next (tickTurn s)
  | .expiryFire => .next (expiryTurn s)
  | .msPulse tickFirst => .next (pulse tickFirst s)
  | .runUntil t tickFirst => .next (untilTime t tickFirst s)
  | .pinIn level => .next { s with pinIn := level }
  | .channelMoves => .next s
  | .rst asserted => .next (if asserted then assertReset s else s)

/-- An event while `rst` is asserted: no step of any agent occurs (rule R290). Only the release of `rst` has an effect. -/
def takeEventInReset (e : Event) (s : State) : State :=
  match e with
  | .rst asserted => { s with rst := asserted }
  | .regRead _ _ => s
  | .regWrite _ _ _ => s
  | .tickFire => s
  | .expiryFire => s
  | .msPulse _ => s
  | .runUntil _ _ => s
  | .pinIn _ => s
  | .channelMoves => s

/-- Every step has free values of its own (rule R150, item I2). -/
def drawn (s : State) : State := { s with draws := s.draws + 1 }

/-- No event is pending: the block's own agents move, so a due line fires or time advances (rules R235 and R236). -/
def ownStep (s : State) : State :=
  if s.rst then drawn s else timePasses (Config.tickLineFirst s.draws) (drawn s)

/-- The next event is taken from the inbox, or the block moves by itself. -/
def nextStep (s : State) : Host.Outcome State Fault Refusal :=
  match s.inbox with
  | [] => .next (ownStep s)
  | e :: rest =>
    if s.rst then .next (takeEventInReset e (drawn { s with inbox := rest }))
    else takeEvent e (drawn { s with inbox := rest })

end Machine
end Sys2Proof
end

