-- ==== Sys2Proof/Machine/Step.lean ====
section
/-! DEFINITION. One atomic step (rule R12) and where it finds its next command word: at the head of the pending steps, as the host's write to
`CMD` (rules R71 and R77: there is no stored instruction stream). -/
namespace Sys2Proof
namespace Machine

/-- One step. Parameters that break rule R9 are refused; else the next pending step is made, or the block's own. -/
def step (s : State) : Host.Outcome State Fault Refusal :=
  if s.params.valid then nextStep s else .refused .invalidParameters

/-- The host is about to write the command word whose `nbits` bits are `w` to `CMD`, before anything that is already pending. `rst` is
released, since no step occurs while it is asserted (rule R290). -/
def State.withFetchWord (s : State) (nbits w : Nat) : State :=
  { s with rst := false, inbox := .regWrite 32 0x00 (BitVec.ofNat 32 (w % 2 ^ nbits)) :: s.inbox }

end Machine
end Sys2Proof
end

