-- ==== Sys2Proof/Machine/Script.lean ====
section
/-! DEFINITION. The statements of the assembler syntax of rule R101 and the pending steps each stands for, with the pseudo-instruction `POLL`
(rules R102 and R197). -/
namespace Sys2Proof
namespace Machine

/-- A statement of rule R101. -/
inductive Statement where
  /-- A command mnemonic with its operand. -/
  | command (i : Instr)
  /-- `WRITE <name> <value>`. -/
  | write (r : Reg) (v : Word)
  /-- `READ <name>`. -/
  | read (r : Reg)
  /-- `AT <t>`, with the order of two lines due together that rule R236 leaves free. -/
  | runTo (t : Word) (tickFirst : Bool)
  /-- `PIN <0|1>`. -/
  | pin (level : Bool)
  /-- `POLL`, the one pseudo-instruction. -/
  | poll
  deriving DecidableEq, Repr

/-- The write of a command to `CMD` (rule R71). -/
def commandWrite (i : Instr) : Event := .regWrite 32 (offsetOf .cmd) (encode i)

/-- The pending steps a statement stands for. `POLL` is `SAMPLE`, `DRAIN_EXPIRY`, `TICK`, three separate steps (rule R102). -/
def stepsOf : Statement → List Event
  | .command i => [commandWrite i]
  | .write r v => [.regWrite 32 (offsetOf r) v]
  | .read r => [.regRead 32 (offsetOf r)]
  | .runTo t tickFirst => [.runUntil t tickFirst]
  | .pin level => [.pinIn level]
  | .poll => [commandWrite .sample, commandWrite .drainExpiry, commandWrite .tick]

/-- The pending steps of a program (rule R101). -/
def stepsOfProgram (program : List Statement) : List Event := program.flatMap stepsOf

/-- The state in which the host has a program to issue: its steps come before what is already pending. -/
def issueProgram (program : List Statement) (s : State) : State := { s with inbox := stepsOfProgram program ++ s.inbox }

end Machine
end Sys2Proof
end

