-- ==== Sys2Proof/Safety.lean ====
section
/-! DEFINITION. What holds in every state a run reaches: the twelve invariants of rule R49 item by item, what they rest on, and the relation
between the display counter and the expiry line (rule R234). Every part is decidable. -/
namespace Sys2Proof
namespace Machine

/-- No two starts without a stop between them: `running` says whether a `WaveStart` is open. -/
def startsSeparated (running : Bool) : List PinEvent → Bool
  | [] => true
  | .waveStart _ :: rest => !running && startsSeparated true rest
  | .waveStop :: rest => startsSeparated false rest
  | .settle :: rest => startsSeparated running rest
  | .setHiZ :: rest => startsSeparated running rest
  | .setDrivenLow :: rest => startsSeparated running rest

/-- Rule R49 item 1. -/
abbrev SafeIffHiZ (s : State) : Prop := s.msmState = .safe ↔ s.pinState = .hiZ

/-- Both lines disarmed, nothing counted, nothing expired. -/
abbrev CountdownIdle (s : State) : Prop :=
  s.tickArmed = false ∧ s.expiryArmed = false ∧ s.timeoutExpired = false ∧ s.remainingMs = 0#32

/-- Rule R49 item 2. -/
abbrev StandbyIsLow (s : State) : Prop :=
  s.msmState = .standby → s.pinState = .drivenLow ∧ s.armed = false ∧ s.currentFrequencyHz = 0#16 ∧ CountdownIdle s

/-- Rule R49 item 3. -/
abbrev SafeIsOff (s : State) : Prop :=
  s.msmState = .safe → s.armed = false ∧ s.currentFrequencyHz = 0#16 ∧ s.indicatorHz = 0#16 ∧ CountdownIdle s

/-- Rule R49 item 4. -/
abbrev ArmedIffWave (s : State) : Prop :=
  (s.armed = true ↔ s.pinState = .activeWaveform) ∧ (s.armed = true → s.msmState = .running)

/-- Rule R49 item 5: the interlock-blocked sub-state. -/
abbrev BlockedIsLow (s : State) : Prop :=
  s.msmState = .running → s.armed = false → s.pinState = .drivenLow ∧ s.currentFrequencyHz = 0#16

/-- Rule R49 item 6. -/
abbrev RunningModeHasWave (s : State) : Prop :=
  s.msmState = .running → (modeAt s.params s.activeModeIndex).frequencyHz ≠ 0#16

/-- Rule R49 item 7. -/
abbrev ArmedFrequency (s : State) : Prop :=
  s.armed = true → s.currentFrequencyHz = clampFreq s.params (modeAt s.params s.activeModeIndex).frequencyHz

/-- Rule R49 item 8. -/
abbrev LevelFollowsPhase (s : State) : Prop :=
  (s.pinState ≠ .activeWaveform → s.outputLevel = false ∧ s.waveformPhase = false) ∧
  (s.params.waveBackend = .polled → s.outputLevel = (s.waveformPhase && s.armed))

/-- Rule R49 item 9. -/
abbrev ChannelRunsIffWave (s : State) : Prop :=
  s.chRunning = true ↔ s.params.waveBackend = .channel ∧ s.pinState = .activeWaveform

/-- Rule R49 item 10. -/
abbrev LinesOnlyRunning (s : State) : Prop := s.tickArmed = true ∨ s.expiryArmed = true → s.msmState = .running

/-- Rule R49 item 11. -/
abbrev ExpiryLineAlone (s : State) : Prop := s.expiryArmed = true → s.tickArmed = true ∧ s.timeoutExpired = false

/-- Rule R49 item 12. -/
abbrev StartsHaveStops (s : State) : Prop := startsSeparated false s.pinTrace = true

/-- The active mode is an entry of the table (rule R29), and a set flag or a running count belongs to a countdown (rules R31 and R183). -/
abbrev CountdownOwned (s : State) : Prop :=
  s.activeModeIndex.toNat < s.params.modes.length ∧
  (s.timeoutExpired = true → s.tickArmed = true) ∧ (s.remainingMs ≠ 0#32 → s.tickArmed = true)

/-- What the backend that is absent never does (rules R21, R25, R41 and R149), and what a running channel was started with (rule R149). -/
abbrev BackendsApart (s : State) : Prop :=
  (s.params.waveBackend = .polled → s.chRunning = false ∧ s.chFreqHz = 0#16 ∧ s.chDuty = 0#8) ∧
  (s.params.waveBackend = .channel → s.outputLevel = false ∧ s.waveformPhase = false) ∧
  (s.chRunning = true → s.chFreqHz = s.currentFrequencyHz ∧ s.chDuty = 50#8)

/-- The invariants of rule R49 and what they rest on. -/
abbrev BlockInv (s : State) : Prop :=
  s.params.valid = true ∧ SafeIffHiZ s ∧ StandbyIsLow s ∧ SafeIsOff s ∧ ArmedIffWave s ∧ BlockedIsLow s ∧ RunningModeHasWave s ∧
  ArmedFrequency s ∧ LevelFollowsPhase s ∧ ChannelRunsIffWave s ∧ LinesOnlyRunning s ∧ ExpiryLineAlone s ∧ StartsHaveStops s ∧
  CountdownOwned s ∧ BackendsApart s

/-- The milliseconds until the tick line's next firing, modulo 2^32. -/
def tickLeft (s : State) : Nat := (s.tickNextMs - s.nowMs).toNat

/-- The milliseconds until the expiry line fires, modulo 2^32: the true remaining time of rule R234. -/
def expiryLeft (s : State) : Nat := (s.expiryDeadlineMs - s.nowMs).toNat

/-- The staircase of rule R234: an armed tick line is at most one period away; while the expiry line is armed it is at most the longest
duration of rule R16 away, and the display counter is the true remaining time plus what is missing of the current period. -/
abbrev CountdownStaircase (s : State) : Prop :=
  (s.tickArmed = true → tickLeft s ≤ 1000) ∧
  (s.expiryArmed = true → s.tickArmed = true ∧ expiryLeft s ≤ 65535000 ∧ s.remainingMs.toNat + tickLeft s = expiryLeft s + 1000)

/-- The state in which the host issues `SAMPLE`, at `offset` ms after the time of `base` and with the raw level `level`. -/
def sampledAt (base : State) (offset : Nat) (level : Bool) (s : State) : State :=
  { s with nowMs := afterMs base.nowMs offset, pinIn := level }

/-- A run of `SAMPLE` commands at the given offsets from the time of `base`, each with the raw level the input pad has then (rule R164). -/
def sampleRun (base : State) : List (Nat × Bool) → State → State
  | [], s => s
  | (offset, level) :: rest, s =>
    match exec .sample (sampledAt base offset level s) with
    | .next t => sampleRun base rest t
    | .fault _ => s
    | .refused _ => s

/-- One millisecond of the time base: the lines due now fire and then time advances, as rule R236 requires. The order of two lines due
together makes no difference (rule R237). -/
def millisecondPasses (s : State) : State := timeAdvance (expiryTurn (tickTurn s))

/-- `n` milliseconds with one `TICK` in each of them (the hypothesis of rule R146). -/
def tickEveryMs : Nat → State → State
  | 0, s => s
  | n + 1, s =>
    match exec .tick (millisecondPasses (tickEveryMs n s)) with
    | .next t => t
    | .fault _ => s
    | .refused _ => s

/-- The events that stopping the waveform leaves in the trace: the settling delay only after a running channel (rules R121 and R125). -/
def stopEvents (s : State) : List PinEvent :=
  if s.params.waveBackend = .channel ∧ s.chRunning = true then [.waveStop, .settle] else [.waveStop]

/-- Whether the waveform channel still runs after the waveform is stopped (rule R121; `false` in every state of a run, rule R49 item 9). -/
def runningAfterStop (s : State) : Bool :=
  if s.params.waveBackend = .channel then false else s.chRunning

/-- The countdown elements after a start with duration `seconds` (`runs`) or a cancel (rules R183 and R184), written out in numbers. -/
def withCountdown (runs : Bool) (seconds : Half) (s : State) : State :=
  { s with
    remainingMs := if runs then BitVec.ofNat 32 (seconds.toNat * 1000) else 0#32
    timeoutExpired := false
    tickArmed := runs
    tickNextMs := if runs then s.nowMs + 1000#32 else s.tickNextMs
    expiryArmed := runs
    expiryDeadlineMs := if runs then s.nowMs + BitVec.ofNat 32 (seconds.toNat * 1000) else s.expiryDeadlineMs }

/-- The states after the events that the block consumes, with the bookkeeping of a step: one event less, one draw more. -/
def consumed (rest : List Event) (s : State) : State := { s with inbox := rest, draws := s.draws + 1 }

end Machine
end Sys2Proof
end

