-- ==== Sys2Proof/Certificates/Slice0/Obligations.lean ====
section
/-! DEFINITION. The statements about the block, grouped as the spec is: encoding, steps, commands, the timer context, invariants, whole-block
rules, the register space, arithmetic, reset and pad. Each says which rule of spec/ it formalises. -/
open Sys2Proof
open Sys2Proof.Machine

/-! ### The command word -/

/-- Rules R92 to R94: every command's word decodes back to it, operand included, as a word, as four bytes and as a row of the table. -/
def Obligations.EncodedCommandDecodesBack : Prop :=
  ∀ i : Instr, decode (encode i) = .command i ∧ decodeBytes (bytesOfWord (encode i)) = some i ∧
    decodeTableWord 32 (encode i).toNat = some i

/-- Rules R92 and R93: a command has one word only. -/
def Obligations.CommandWordIsItsEncoding : Prop :=
  ∀ (v : Word) (i : Instr), decode v = .command i → encode i = v

/-- Rule R92: decoding follows the (match, mask) pairs, which are disjoint, with the argument of rule R94, and what is decoded is executed. -/
def Obligations.DecodeFollowsOpcodeMap : Prop :=
  ∀ v : Word,
    (∀ r ∈ opcodeTable, (∃ i, decode v = .command i ∧ mnemonicOf i = r.mnemonic) ↔ v &&& r.mask = r.pattern) ∧
    (∀ r ∈ opcodeTable, ∀ r' ∈ opcodeTable, v &&& r.mask = r.pattern → v &&& r'.mask = r'.pattern → r = r') ∧
    ((∀ r ∈ opcodeTable, v &&& r.mask ≠ r.pattern) → ∃ why, decode v = .reserved why) ∧
    (∀ idx, decode v = .command (.applyMode idx) → idx = v.extractLsb' 0 16) ∧
    (∀ b, decode v = .command (.setLimit b) → b = v.getLsbD 0) ∧
    (∀ rpm, decode v = .command (.buildSetSpeed rpm) → rpm = v.extractLsb' 0 16) ∧
    (∀ i s, decode v = .command i → runCommandWord v s = exec i s) ∧
    (∀ why s, decode v = .reserved why → runCommandWord v s = .next { s with cmdIgnored := true })

/-- Rule R98: the reserved words are exactly those that match no row, and they are the four items of the rule. -/
def Obligations.ReservedWordsAreExactlyThese : Prop :=
  (∀ v : Word, (∃ why, decode v = .reserved why) ↔ ∀ r ∈ opcodeTable, v &&& r.mask ≠ r.pattern) ∧
  (∀ v : Word, (∃ why, decode v = .reserved why) ↔
    (v.extractLsb' 24 8 = 0x00#8 ∨ 0x0A#8 ≤ v.extractLsb' 24 8) ∨
    v.extractLsb' 16 8 ≠ 0x00#8 ∨
    (v.extractLsb' 24 8 ∈ [0x01#8, 0x02#8, 0x05#8, 0x06#8, 0x07#8, 0x08#8] ∧ v.extractLsb' 0 16 ≠ 0#16) ∨
    (v.extractLsb' 24 8 = 0x04#8 ∧ v.extractLsb' 1 15 ≠ 0#15)) ∧
  (∃ why, decode 0x00000000#32 = .reserved why)

/-- Rule R94: an operand is `v[15:0]` as it stands; the bits above bit 0 of `SET_LIMIT`'s operand must be 0. -/
def Obligations.OperandsAreLowBits : Prop :=
  ∀ v : Word, v.extractLsb' 16 8 = 0x00#8 →
    (v.extractLsb' 24 8 = 0x03#8 → decode v = .command (.applyMode (v.extractLsb' 0 16))) ∧
    (v.extractLsb' 24 8 = 0x04#8 → v.extractLsb' 1 15 = 0#15 → decode v = .command (.setLimit (v.getLsbD 0))) ∧
    (v.extractLsb' 24 8 = 0x04#8 → v.extractLsb' 1 15 ≠ 0#15 → ∃ why, decode v = .reserved why) ∧
    (v.extractLsb' 24 8 = 0x09#8 → decode v = .command (.buildSetSpeed (v.extractLsb' 0 16)))

/-- Rule R104: the worked encodings, both ways, and the reserved words that each execute `ignore()`. -/
def Obligations.SpecWordsDecode : Prop :=
  (∀ p ∈ ([(.powerOn, 0x01000000#32), (.powerOff, 0x02000000#32), (.applyMode 0#16, 0x03000000#32),
      (.applyMode 1#16, 0x03000001#32), (.applyMode 65535#16, 0x0300FFFF#32), (.setLimit false, 0x04000000#32),
      (.setLimit true, 0x04000001#32), (.applyProfile, 0x05000000#32), (.sample, 0x06000000#32), (.tick, 0x07000000#32),
      (.drainExpiry, 0x08000000#32), (.buildSetSpeed 3000#16, 0x09000BB8#32),
      (.buildSetSpeed 65535#16, 0x0900FFFF#32)] : List (Instr × Word)),
    encode p.1 = p.2 ∧ decode p.2 = .command p.1) ∧
  (∀ v ∈ [0x00000000#32, 0x01000001#32, 0x03010000#32, 0x04000002#32, 0x0A000000#32, 0xFFFFFFFF#32], ∀ s,
    runCommandWord v s = .next { s with cmdIgnored := true })

/-! ### Steps -/

/-- Rules R71 and R99: the step that takes a host's write of a command word to `CMD` is the decoded command's effect, on the state with that
write taken from the pending steps (the model's own list, log entry 2); for a reserved word it is `ignore()`. -/
def Obligations.StepRunsDecodedCommand : Prop :=
  ∀ (s : State) (v : Word) (rest : List Event),
    s.params.valid = true → s.rst = false → s.inbox = .regWrite 32 0x00 v :: rest →
    (∀ i, decode v = .command i → step s = exec i (consumed rest s)) ∧
    (∀ why, decode v = .reserved why → step s = .next { consumed rest s with cmdIgnored := true })

/-- Rules R71 and R77: a word placed where the next command is taken from is the command that runs next. Where that is, is the model's choice
(log entry 9). -/
def Obligations.FetchedWordRuns : Prop :=
  ∀ (s : State) (nbits w : Nat) (i : Instr),
    s.params.valid = true → decodeTableWord nbits w = some i →
    step (s.withFetchWord nbits w) = exec i { s with rst := false, draws := s.draws + 1 }

/-- Rule R99: a reserved word and an `APPLY_MODE` with an index outside the table or in `SAFE` write `cmd_ignored` and nothing else; every
other command ends with it clear. -/
def Obligations.CommandReportsWhetherIgnored : Prop :=
  ∀ s : State,
    (∀ v why, decode v = .reserved why → runCommandWord v s = .next { s with cmdIgnored := true }) ∧
    (∀ v i, decode v = .command i → runCommandWord v s = exec i s) ∧
    (∀ i, if ∃ idx, i = .applyMode idx ∧ (s.params.modes.length ≤ idx.toNat ∨ s.msmState = .safe)
      then exec i s = .next { s with cmdIgnored := true }
      else ∃ t, exec i s = .next t ∧ t.cmdIgnored = false)

/-- Rules R260 and R129: no step of a device with admissible parameters stops. -/
def Obligations.EveryStepAnswersANextState : Prop :=
  (∀ (i : Instr) (s : State), ∃ t, exec i s = .next t) ∧
  (∀ s : State, s.params.valid = true → ∃ t, step s = .next t ∧ t.params = s.params)

/-- Rules R8 and R9: which parameters are admissible, and that the others are refused. The unit of the settling delay is the model's (log
entry 7). -/
def Obligations.ParametersAreChecked : Prop :=
  (∀ p : Params, p.valid = true ↔
    1 ≤ p.fMin.toNat ∧ p.fMin.toNat ≤ p.fMax.toNat ∧ p.fMax.toNat ≤ 65535 ∧ p.rpmMax.toNat ≤ 65535 ∧
    1 ≤ p.modes.length ∧ p.modes.length ≤ 65536 ∧ p.tSettleNs < 1000000) ∧
  (∀ s : State, s.params.valid = false → step s = .refused .invalidParameters)

/-! ### The commands: each completes in every state, with exactly these elements written -/

/-- Rule R185: `POWER_ON` from every state; from `STANDBY` only the indicator, the report and the trace can change. -/
def Obligations.PowerOnResult : Prop :=
  (∀ s : State, exec .powerOn s = .next { s with
    pinState := .drivenLow, outputLevel := false, waveformPhase := false, chRunning := runningAfterStop s,
    armed := false, currentFrequencyHz := 0#16, tickArmed := false, expiryArmed := false, remainingMs := 0#32,
    timeoutExpired := false, indicatorHz := 0#16, msmState := .standby, cmdIgnored := false,
    pinTrace := s.pinTrace ++ stopEvents s ++ [.setDrivenLow] }) ∧
  (∀ s : State, BlockInv s → s.msmState = .standby → exec .powerOn s = .next { s with
    indicatorHz := 0#16, cmdIgnored := false, pinTrace := s.pinTrace ++ [.waveStop, .setDrivenLow] })

/-- Rule R192: `POWER_OFF` from every state; in `SAFE` only the report and the trace can change. -/
def Obligations.PowerOffResult : Prop :=
  (∀ s : State, exec .powerOff s = .next { s with
    pinState := .hiZ, outputLevel := false, waveformPhase := false, chRunning := runningAfterStop s,
    armed := false, currentFrequencyHz := 0#16, tickArmed := false, expiryArmed := false, remainingMs := 0#32,
    timeoutExpired := false, indicatorHz := 0#16, msmState := .safe, cmdIgnored := false,
    pinTrace := s.pinTrace ++ stopEvents s ++ [.setHiZ] }) ∧
  (∀ s : State, BlockInv s → s.msmState = .safe → exec .powerOff s = .next { s with
    cmdIgnored := false, pinTrace := s.pinTrace ++ [.waveStop, .setHiZ] })

/-- Rules R187 and R191: an index outside the table, or any index in `SAFE`, writes the report and nothing else. -/
def Obligations.ApplyModeIgnoredResult : Prop :=
  ∀ (idx : Half) (s : State), s.params.modes.length ≤ idx.toNat ∨ s.msmState = .safe →
    exec (.applyMode idx) s = .next { s with cmdIgnored := true }

/-- Rules R187 and R188: a mode of frequency 0 drives the pin low and goes to `STANDBY`, blocked or not, and never runs a countdown. -/
def Obligations.ApplyModeZeroFrequencyResult : Prop :=
  ∀ (idx : Half) (s : State) (m : Mode), s.params.modes[idx.toNat]? = some m → s.msmState ≠ .safe → m.frequencyHz = 0#16 →
    exec (.applyMode idx) s = .next (withCountdown false m.defaultTimeoutSeconds { s with
      activeModeIndex := idx, pinState := .drivenLow, outputLevel := false, waveformPhase := false,
      chRunning := runningAfterStop s, armed := false, currentFrequencyHz := 0#16, msmState := .standby,
      indicatorHz := m.indicatorBlinkHz, cmdIgnored := false, pinTrace := s.pinTrace ++ stopEvents s ++ [.setDrivenLow] })

/-- Rules R187 and R190: while the interlock forbids driving, the mode is selected and the waveform is not started. -/
def Obligations.ApplyModeBlockedResult : Prop :=
  ∀ (idx : Half) (s : State) (m : Mode), s.params.modes[idx.toNat]? = some m → s.msmState ≠ .safe → m.frequencyHz ≠ 0#16 →
    s.profile.interlockEnabled = true → s.inputLevel = true →
    exec (.applyMode idx) s = .next (withCountdown (s.limitEnabled && decide (0 < m.defaultTimeoutSeconds.toNat)) m.defaultTimeoutSeconds { s with
      activeModeIndex := idx, pinState := .drivenLow, outputLevel := false, waveformPhase := false,
      chRunning := runningAfterStop s, armed := false, currentFrequencyHz := 0#16, msmState := .running,
      indicatorHz := m.indicatorBlinkHz, cmdIgnored := false, pinTrace := s.pinTrace ++ stopEvents s ++ [.setDrivenLow] })

/-- Rules R187, R189 and R124: else the waveform is stopped and started at the clamped frequency, by the polled generator in its low
half-period or by the channel at 50 % duty, and `armed` is set. -/
def Obligations.ApplyModeWaveformResult : Prop :=
  ∀ (idx : Half) (s : State) (m : Mode), s.params.modes[idx.toNat]? = some m → s.msmState ≠ .safe → m.frequencyHz ≠ 0#16 →
    (s.profile.interlockEnabled = false ∨ s.inputLevel = false) →
    (s.params.waveBackend = .polled →
      exec (.applyMode idx) s = .next (withCountdown (s.limitEnabled && decide (0 < m.defaultTimeoutSeconds.toNat)) m.defaultTimeoutSeconds { s with
        activeModeIndex := idx, pinState := .activeWaveform, outputLevel := false, waveformPhase := false,
        nextToggleMs := s.nowMs + BitVec.ofNat 32 (halfPeriod s.params (clampFreq s.params m.frequencyHz)),
        armed := true, currentFrequencyHz := clampFreq s.params m.frequencyHz, msmState := .running,
        indicatorHz := m.indicatorBlinkHz, cmdIgnored := false,
        pinTrace := s.pinTrace ++ [.waveStop, .waveStart (clampFreq s.params m.frequencyHz)] })) ∧
    (s.params.waveBackend = .channel →
      exec (.applyMode idx) s = .next (withCountdown (s.limitEnabled && decide (0 < m.defaultTimeoutSeconds.toNat)) m.defaultTimeoutSeconds { s with
        activeModeIndex := idx, pinState := .activeWaveform, outputLevel := false, waveformPhase := false,
        chRunning := true, chFreqHz := clampFreq s.params m.frequencyHz, chDuty := 50#8,
        armed := true, currentFrequencyHz := clampFreq s.params m.frequencyHz, msmState := .running,
        indicatorHz := m.indicatorBlinkHz, cmdIgnored := false,
        pinTrace := s.pinTrace ++ stopEvents s ++ [.waveStart (clampFreq s.params m.frequencyHz)] }))

/-- Rule R193: outside `RUNNING`, or with the value the flag has, only the flag is stored; a change while `RUNNING` cancels the countdown or
restarts it from the active mode's full duration, whatever `armed` is. -/
def Obligations.SetLimitResult : Prop :=
  ∀ (b : Bool) (s : State),
    (s.msmState ≠ .running ∨ s.limitEnabled = b →
      exec (.setLimit b) s = .next { s with limitEnabled := b, cmdIgnored := false }) ∧
    (s.msmState = .running → s.limitEnabled = true → b = false →
      exec (.setLimit b) s = .next (withCountdown false 0#16 { s with limitEnabled := b, cmdIgnored := false })) ∧
    (∀ m, s.params.modes[s.activeModeIndex.toNat]? = some m → s.msmState = .running → s.limitEnabled = false → b = true →
      exec (.setLimit b) s = .next (withCountdown (decide (0 < m.defaultTimeoutSeconds.toNat)) m.defaultTimeoutSeconds
        { s with limitEnabled := b, cmdIgnored := false }))

/-- Rule R194: the staged profile is latched with its frequency clamped; in `SAFE` the pin is re-initialised to Hi-Z and the state stays, in
every other state the machine is put in `STANDBY`. -/
def Obligations.ApplyProfileResult : Prop :=
  ∀ s : State,
    (s.msmState = .safe → exec .applyProfile s = .next { s with
      profile := { s.staged with frequencyHz := clampFreq s.params s.staged.frequencyHz },
      pinState := .hiZ, outputLevel := false, waveformPhase := false, chRunning := runningAfterStop s, cmdIgnored := false,
      pinTrace := s.pinTrace ++ stopEvents s ++ [.setHiZ] }) ∧
    (s.msmState ≠ .safe → exec .applyProfile s = .next { s with
      profile := { s.staged with frequencyHz := clampFreq s.params s.staged.frequencyHz },
      pinState := .drivenLow, outputLevel := false, waveformPhase := false, chRunning := runningAfterStop s,
      armed := false, currentFrequencyHz := 0#16, tickArmed := false, expiryArmed := false, remainingMs := 0#32,
      timeoutExpired := false, indicatorHz := 0#16, msmState := .standby, cmdIgnored := false,
      pinTrace := s.pinTrace ++ stopEvents s ++ [.setDrivenLow] })

/-- Rules R162 and R163: the first invocation takes the raw level at once; a later one records a raw change, then adopts the raw level if it
differs from the stable one and the window has passed since the recorded change. -/
def Obligations.SampleResult : Prop :=
  ∀ s : State,
    (s.dbInit = false → exec .sample s = .next { s with
      dbInit := true, lastRaw := s.pinIn, inputLevel := s.pinIn, lastInputChangeMs := s.nowMs, cmdIgnored := false }) ∧
    (s.dbInit = true → s.pinIn ≠ s.lastRaw → exec .sample s = .next { s with
      lastRaw := s.pinIn, lastInputChangeMs := s.nowMs,
      inputLevel := if s.profile.debounceMs = 0#16 then s.pinIn else s.inputLevel, cmdIgnored := false }) ∧
    (s.dbInit = true → s.pinIn = s.lastRaw → exec .sample s = .next { s with
      inputLevel := if s.profile.debounceMs.toNat ≤ (s.nowMs - s.lastInputChangeMs).toNat then s.lastRaw else s.inputLevel,
      cmdIgnored := false })

/-- Rules R195 and R144: a blocked `TICK` in `RUNNING` trips, or in the blocked sub-state only cancels again; one that is not blocked ticks a
running polled waveform, with one flip at most; every other one writes only the report. -/
def Obligations.TickResult : Prop :=
  ∀ s : State,
    (s.msmState = .running → s.profile.interlockEnabled = true → s.inputLevel = true → s.armed = true →
      exec .tick s = .next { s with
        pinState := .drivenLow, outputLevel := false, waveformPhase := false, chRunning := runningAfterStop s,
        armed := false, currentFrequencyHz := 0#16, tickArmed := false, expiryArmed := false, remainingMs := 0#32,
        timeoutExpired := false, cmdIgnored := false, pinTrace := s.pinTrace ++ stopEvents s ++ [.setDrivenLow] }) ∧
    (s.msmState = .running → s.profile.interlockEnabled = true → s.inputLevel = true → s.armed = false →
      exec .tick s = .next { s with
        tickArmed := false, expiryArmed := false, remainingMs := 0#32, timeoutExpired := false, cmdIgnored := false }) ∧
    ((s.profile.interlockEnabled = false ∨ s.inputLevel = false) → s.msmState = .running → s.pinState = .activeWaveform →
      s.params.waveBackend = .polled →
      (s.nextToggleMs ≤ s.nowMs → exec .tick s = .next { s with
        waveformPhase := !s.waveformPhase, outputLevel := !s.waveformPhase && s.armed,
        nextToggleMs := s.nextToggleMs + BitVec.ofNat 32 (halfPeriod s.params s.currentFrequencyHz), cmdIgnored := false }) ∧
      (¬ s.nextToggleMs ≤ s.nowMs → exec .tick s = .next { s with
        outputLevel := s.waveformPhase && s.armed, cmdIgnored := false })) ∧
    (s.msmState ≠ .running ∨
      (s.profile.interlockEnabled = false ∨ s.inputLevel = false) ∧ (s.pinState ≠ .activeWaveform ∨ s.params.waveBackend = .channel) →
      exec .tick s = .next { s with cmdIgnored := false })

/-- Rules R196 and R198: with the flag clear nothing but the report is written; with it set the flag is consumed, and in `RUNNING` the block
goes to `ON_EXPIRY_TARGET`. -/
def Obligations.DrainExpiryResult : Prop :=
  ∀ s : State,
    (s.timeoutExpired = false → exec .drainExpiry s = .next { s with cmdIgnored := false }) ∧
    (s.timeoutExpired = true → s.msmState ≠ .running →
      exec .drainExpiry s = .next { s with timeoutExpired := false, cmdIgnored := false }) ∧
    (s.timeoutExpired = true → s.msmState = .running → s.params.onExpiryTarget = .standby →
      exec .drainExpiry s = .next { s with
        pinState := .drivenLow, outputLevel := false, waveformPhase := false, chRunning := runningAfterStop s,
        msmState := .standby, armed := false, currentFrequencyHz := 0#16, tickArmed := false, expiryArmed := false,
        remainingMs := 0#32, timeoutExpired := false, indicatorHz := 0#16, cmdIgnored := false,
        pinTrace := s.pinTrace ++ stopEvents s ++ [.setDrivenLow] }) ∧
    (s.timeoutExpired = true → s.msmState = .running → s.params.onExpiryTarget = .safe →
      exec .drainExpiry s = .next { s with
        pinState := .hiZ, outputLevel := false, waveformPhase := false, chRunning := runningAfterStop s,
        msmState := .safe, armed := false, currentFrequencyHz := 0#16, tickArmed := false, expiryArmed := false,
        remainingMs := 0#32, timeoutExpired := false, indicatorHz := 0#16, cmdIgnored := false,
        pinTrace := s.pinTrace ++ stopEvents s ++ [.setHiZ] })

/-- Rules R251 and R97: the frame holds the header bytes, the clamped speed low byte first, and the byte that brings the sum of all five to a
multiple of 256; nothing else but the report is written. -/
def Obligations.BuildSetSpeedResult : Prop :=
  ∀ (rpm : Half) (s : State), ∃ sum : Byte,
    exec (.buildSetSpeed rpm) s = .next { s with
      frameBuf := ⟨s.params.frameId, s.params.frameCmd, BitVec.ofNat 8 (min rpm.toNat s.params.rpmMax.toNat),
        BitVec.ofNat 8 (min rpm.toNat s.params.rpmMax.toNat / 256), sum⟩,
      cmdIgnored := false } ∧
    (s.params.frameId.toNat + s.params.frameCmd.toNat + min rpm.toNat s.params.rpmMax.toNat % 256
      + min rpm.toNat s.params.rpmMax.toNat / 256 + sum.toNat) % 256 = 0

/-! ### The timer context and time -/

/-- Rule R232: a firing of the tick line decrements the counter, floored at 0, moves the line's own deadline by one period, and writes
nothing else: the line stays armed and the flag, the mode and the pin are as they were. -/
def Obligations.TickLineFiring : Prop :=
  ∀ (s : State) (rest : List Event), s.params.valid = true → s.rst = false → s.inbox = .tickFire :: rest →
    s.tickArmed = true → s.nowMs = s.tickNextMs → step s = .next { consumed rest s with
      remainingMs := BitVec.ofNat 32 (s.remainingMs.toNat - 1000), tickNextMs := s.tickNextMs + 1000#32 }

/-- Rule R233: a firing of the expiry line sets the flag, disarms the line, and writes nothing else. -/
def Obligations.ExpiryLineFiring : Prop :=
  ∀ (s : State) (rest : List Event), s.params.valid = true → s.rst = false → s.inbox = .expiryFire :: rest →
    s.expiryArmed = true → s.nowMs = s.expiryDeadlineMs → step s = .next { consumed rest s with
      timeoutExpired := true, expiryArmed := false }

/-- Rules R231, R232 and R233: a line that is disarmed or whose deadline is not now does not fire, whatever it holds. That its turn is then a
step that changes nothing of the block is the model's choice (log entry 11). -/
def Obligations.LineNotDueDoesNotFire : Prop :=
  ∀ (s : State) (rest : List Event), s.params.valid = true → s.rst = false →
    (s.inbox = .tickFire :: rest → s.tickArmed = false ∨ s.nowMs ≠ s.tickNextMs → step s = .next (consumed rest s)) ∧
    (s.inbox = .expiryFire :: rest → s.expiryArmed = false ∨ s.nowMs ≠ s.expiryDeadlineMs → step s = .next (consumed rest s))

/-- Rules R235 and R236: a pulse advances time by one millisecond when no line is due; while one is due time stands, and after at most two
firings the pulse is taken. That the pulse waits, rather than being lost, is the model's reading (log entry 17). -/
def Obligations.TimePassesOnlyWhenNothingIsDue : Prop :=
  ∀ (s : State) (rest : List Event) (tickFirst : Bool),
    s.params.valid = true → s.rst = false → s.inbox = .msPulse tickFirst :: rest →
    (lineDue s = false → step s = .next { consumed rest s with nowMs := s.nowMs + 1#32 }) ∧
    (lineDue s = true → ∃ t, step s = .next t ∧ t.nowMs = s.nowMs ∧ t.inbox = s.inbox) ∧
    (∃ k t, k ≤ 2 ∧ core.run (k + 1) s = .next t ∧ t.nowMs = s.nowMs + 1#32 ∧ t.inbox = rest)

/-- Rule R237: two lines due together may fire in either order, and after both the states are equal. -/
def Obligations.BothLinesInEitherOrder : Prop :=
  ∀ (s : State) (rest : List Event), s.params.valid = true → s.rst = false → tickDue s = true → expiryDue s = true →
    core.run 2 { s with inbox := .tickFire :: .expiryFire :: rest } = core.run 2 { s with inbox := .expiryFire :: .tickFire :: rest } ∧
    core.run 2 { s with inbox := .tickFire :: .expiryFire :: rest } = .next { s with
      inbox := rest, draws := s.draws + 2, remainingMs := BitVec.ofNat 32 (s.remainingMs.toNat - 1000),
      tickNextMs := s.tickNextMs + 1000#32, timeoutExpired := true, expiryArmed := false }

/-- Rules R74 and R53: a step of the timer context or of time writes the counter, the flag, the lines' own bookkeeping or `now_ms`, and
nothing of the pin, the mode, the profile or the generator; one of them alone at a time. -/
def Obligations.TimerContextWritesOnlyScalars : Prop :=
  ∀ s t : State, step s = .next t →
    (s.inbox = [] ∨ ∃ e rest, s.inbox = e :: rest ∧
      (e = .tickFire ∨ e = .expiryFire ∨ (∃ o, e = .msPulse o) ∨ (∃ u o, e = .runUntil u o))) →
    t = { s with
      inbox := t.inbox, draws := t.draws, remainingMs := t.remainingMs, timeoutExpired := t.timeoutExpired,
      tickNextMs := t.tickNextMs, expiryArmed := t.expiryArmed, nowMs := t.nowMs } ∧
    (t.nowMs ≠ s.nowMs → t.remainingMs = s.remainingMs ∧ t.timeoutExpired = s.timeoutExpired) ∧
    (t.timeoutExpired ≠ s.timeoutExpired → t.timeoutExpired = true ∧ t.remainingMs = s.remainingMs ∧ t.expiryArmed = false)

/-- Rules R233, R236 and R238: from every state in which the expiry line is armed and nothing else is pending, time runs to exactly the
deadline and there the flag is set, with the pin, the mode and everything outside the timer context as it was. That time runs by itself when
nothing is pending is the model's choice (log entry 6). -/
def Obligations.ExpiryFlagSetAtDeadline : Prop :=
  ∀ s : State, s.params.valid = true → s.rst = false → s.inbox = [] → s.expiryArmed = true →
    ∃ k t, k ≤ 2 * expiryLeft s + 2 ∧ core.run k s = .next t ∧
      t = { s with
        nowMs := s.expiryDeadlineMs, timeoutExpired := true, expiryArmed := false,
        remainingMs := t.remainingMs, tickNextMs := t.tickNextMs, draws := t.draws }

/-- Rule R238: a set flag takes the block out of `RUNNING` at the first `DRAIN_EXPIRY`, to the configured target, and a second one finds the
flag clear and changes nothing. -/
def Obligations.TimeoutDrainedOnce : Prop :=
  ∀ s : State, s.timeoutExpired = true → s.msmState = .running →
    ∃ t, exec .drainExpiry s = .next t ∧
      t.msmState = (match s.params.onExpiryTarget with | .standby => .standby | .safe => .safe) ∧
      t.pinState = (match s.params.onExpiryTarget with | .standby => .drivenLow | .safe => .hiZ) ∧
      t.armed = false ∧ t.currentFrequencyHz = 0#16 ∧ t.timeoutExpired = false ∧
      t.activeModeIndex = s.activeModeIndex ∧ t.limitEnabled = s.limitEnabled ∧
      exec .drainExpiry t = .next t

/-! ### Invariants -/

/-- Rules R52 and R49: the reset state of every device variant, with every value of the unspecified elements, has the invariants. The last
two clauses are about the model's own choice: the machine's reset state is the one of the device of log entry 1 with the values of log
entry 3. -/
def Obligations.InvariantHeldAtReset : Prop :=
  (∀ (p : Params) (u : Unspecified), p.valid = true → BlockInv (State.resetFor p u) ∧ CountdownStaircase (State.resetFor p u)) ∧
  (∃ p u, p.valid = true ∧ core.reset = State.resetFor p u) ∧ BlockInv State.reset

/-- Rule R49: every step of every agent keeps the twelve invariants and what they rest on. -/
def Obligations.InvariantKeptByEveryStep : Prop :=
  ∀ s t : State, BlockInv s → step s = .next t → BlockInv t

/-- Rule R234: every step keeps the display counter on its staircase over the true remaining time. -/
def Obligations.StaircaseKeptByEveryStep : Prop :=
  ∀ s t : State, CountdownStaircase s → step s = .next t → CountdownStaircase t

/-! ### Rules about the whole block -/

/-- Rules R182 and R126: `APPLY_MODE idx` twice with no step between leaves what once leaves, the trace aside; the other four mode commands
do so even if time has advanced between the two. -/
def Obligations.RepeatedCommandsAreIdempotent : Prop :=
  (∀ (idx : Half) (s t : State), exec (.applyMode idx) s = .next t →
    ∃ trace, exec (.applyMode idx) t = .next { t with pinTrace := trace }) ∧
  (∀ (i : Instr) (s t : State) (now : Word), (i = .powerOn ∨ i = .powerOff ∨ i = .applyProfile ∨ ∃ b, i = .setLimit b) →
    exec i s = .next t → ∃ trace, exec i { t with nowMs := now } = .next { t with nowMs := now, pinTrace := trace })

/-- Rule R164: from a settled filter, however the raw level moves at the `SAMPLE`s within the debounce window, the stable level stays. -/
def Obligations.DebounceHoldsWithinWindow : Prop :=
  ∀ (s : State) (samples : List (Nat × Bool)),
    s.dbInit = true → s.lastRaw = s.inputLevel →
    samples.Pairwise (fun a b => a.1 ≤ b.1) → (∀ p ∈ samples, p.1 < s.profile.debounceMs.toNat) →
    (sampleRun s samples s).inputLevel = s.inputLevel

/-- Rule R170: with the interlock enabled and the debounced input asserted, one `TICK` leaves the output disarmed and at the off level,
whatever mode was selected. -/
def Obligations.InterlockDisarmsInOneTick : Prop :=
  ∀ s : State, BlockInv s → s.profile.interlockEnabled = true → s.inputLevel = true →
    ∃ t, exec .tick s = .next t ∧ t.armed = false ∧ t.outputLevel = false ∧
      t.pinState = (if s.msmState = .safe then .hiZ else .drivenLow) ∧ t.activeModeIndex = s.activeModeIndex ∧
      t.msmState = s.msmState

/-- Rules R27, R169 and R189: nothing arms the output but an `APPLY_MODE` of a waveform mode that the interlock does not block. -/
def Obligations.OnlyApplyModeArms : Prop :=
  ∀ s t : State, step s = .next t → s.armed = false → t.armed = true →
    ∃ v rest idx, s.inbox = .regWrite 32 0x00 v :: rest ∧ decode v = .command (.applyMode idx) ∧
      (s.profile.interlockEnabled = false ∨ s.inputLevel = false) ∧ (modeAt s.params idx).frequencyHz ≠ 0#16 ∧ s.msmState ≠ .safe

/-- Rules R277 and R292: `SAFE` is left only by `POWER_ON`, and so is Hi-Z, whatever the unspecified elements hold. -/
def Obligations.OnlyPowerOnLeavesSafe : Prop :=
  ∀ s t : State, step s = .next t →
    (s.msmState = .safe → t.msmState ≠ .safe →
      ∃ v rest, s.inbox = .regWrite 32 0x00 v :: rest ∧ decode v = .command .powerOn) ∧
    (BlockInv s → padOe s = false → padOe t = true →
      ∃ v rest, s.inbox = .regWrite 32 0x00 v :: rest ∧ decode v = .command .powerOn)

/-- Rule R53, the control context's column: an element that a command does not name among its writers is unchanged. -/
def Obligations.CommandsWriteOnlyTheirElements : Prop :=
  ∀ (i : Instr) (s t : State), exec i s = .next t →
    (mnemonicOf i ≠ "SAMPLE" → t.inputLevel = s.inputLevel ∧ t.lastRaw = s.lastRaw ∧ t.dbInit = s.dbInit ∧
      t.lastInputChangeMs = s.lastInputChangeMs) ∧
    (mnemonicOf i ∉ ["APPLY_MODE", "TICK"] → t.nextToggleMs = s.nextToggleMs) ∧
    (mnemonicOf i ∉ ["POWER_ON", "POWER_OFF", "APPLY_MODE", "APPLY_PROFILE", "TICK", "DRAIN_EXPIRY"] →
      t.currentFrequencyHz = s.currentFrequencyHz ∧ t.armed = s.armed ∧ t.pinState = s.pinState ∧ t.chRunning = s.chRunning ∧
      t.chFreqHz = s.chFreqHz ∧ t.chDuty = s.chDuty ∧ t.pinTrace = s.pinTrace ∧ t.outputLevel = s.outputLevel ∧
      t.waveformPhase = s.waveformPhase) ∧
    (mnemonicOf i ∉ ["POWER_ON", "POWER_OFF", "APPLY_MODE", "APPLY_PROFILE", "DRAIN_EXPIRY"] →
      t.msmState = s.msmState ∧ t.indicatorHz = s.indicatorHz) ∧
    (mnemonicOf i ≠ "APPLY_MODE" → t.activeModeIndex = s.activeModeIndex) ∧
    (mnemonicOf i ≠ "SET_LIMIT" → t.limitEnabled = s.limitEnabled) ∧
    (mnemonicOf i ∉ ["POWER_ON", "POWER_OFF", "APPLY_MODE", "APPLY_PROFILE", "SET_LIMIT", "TICK", "DRAIN_EXPIRY"] →
      t.remainingMs = s.remainingMs ∧ t.timeoutExpired = s.timeoutExpired ∧ t.tickArmed = s.tickArmed ∧
      t.tickNextMs = s.tickNextMs ∧ t.expiryArmed = s.expiryArmed ∧ t.expiryDeadlineMs = s.expiryDeadlineMs) ∧
    (mnemonicOf i ≠ "APPLY_PROFILE" → t.profile = s.profile) ∧
    (mnemonicOf i ≠ "BUILD_SET_SPEED" → t.frameBuf = s.frameBuf) ∧
    t.staged = s.staged ∧ t.nowMs = s.nowMs ∧ t.params = s.params ∧ t.rst = s.rst ∧ t.pinIn = s.pinIn ∧ t.inbox = s.inbox ∧
    t.readData = s.readData ∧ t.draws = s.draws

/-- Rule R181: the transition table, cell by cell, with the armed and blocked sub-states of `RUNNING`. -/
def Obligations.TransitionTable : Prop :=
  (∀ (i : Instr) (s t : State), exec i s = .next t →
    match i with
    | .powerOn => t.msmState = .standby
    | .powerOff => t.msmState = .safe
    | .applyMode idx =>
      if s.msmState = .safe ∨ s.params.modes.length ≤ idx.toNat then t.msmState = s.msmState ∧ t.armed = s.armed
      else if (modeAt s.params idx).frequencyHz = 0#16 then t.msmState = .standby
      else t.msmState = .running ∧ t.armed = !(s.profile.interlockEnabled && s.inputLevel)
    | .applyProfile => t.msmState = if s.msmState = .safe then .safe else .standby
    | .tick =>
      t.msmState = s.msmState ∧
      t.armed = (s.armed && !(decide (s.msmState = .running) && (s.profile.interlockEnabled && s.inputLevel)))
    | .drainExpiry =>
      if s.timeoutExpired = true ∧ s.msmState = .running
      then t.msmState = (match s.params.onExpiryTarget with | .standby => .standby | .safe => .safe)
      else t.msmState = s.msmState ∧ t.armed = s.armed
    | .setLimit _ => t.msmState = s.msmState ∧ t.armed = s.armed
    | .sample => t.msmState = s.msmState ∧ t.armed = s.armed
    | .buildSetSpeed _ => t.msmState = s.msmState ∧ t.armed = s.armed) ∧
  (∀ s : State, (tickTurn s).msmState = s.msmState ∧ (expiryTurn s).msmState = s.msmState ∧ (timeAdvance s).msmState = s.msmState)

/-- Rule R128: a start in the trace is preceded by a stop that the same command appended, with the settling delay between them exactly when a
channel waveform was running. -/
def Obligations.StartsFollowStops : Prop :=
  ∀ (i : Instr) (s t : State), exec i s = .next t → ∃ added, t.pinTrace = s.pinTrace ++ added ∧
    ∀ f, PinEvent.waveStart f ∈ added →
      added = if s.params.waveBackend = .channel ∧ s.chRunning = true then [.waveStop, .settle, .waveStart f]
        else [.waveStop, .waveStart f]

/-- Rule R268, items b and c: with a timeout and a trip both pending, draining first takes the timeout and the tick then finds nothing to
disarm; ticking first takes the trip, which drops the flag, and the drain then does nothing. -/
def Obligations.TimeoutAndTripOrders : Prop :=
  ∀ s : State, s.msmState = .running → s.armed = true → s.timeoutExpired = true → s.profile.interlockEnabled = true →
    s.inputLevel = true →
    (∃ t, exec .drainExpiry s = .next t ∧ exec .tick t = .next t ∧ t.armed = false ∧ t.indicatorHz = 0#16 ∧
      (s.params.onExpiryTarget = .standby → t.msmState = .standby ∧ t.pinState = .drivenLow) ∧
      (s.params.onExpiryTarget = .safe → t.msmState = .safe ∧ t.pinState = .hiZ)) ∧
    (∃ t, exec .tick s = .next t ∧ exec .drainExpiry t = .next t ∧ t.armed = false ∧ t.msmState = .running ∧
      t.pinState = .drivenLow ∧ t.indicatorHz = s.indicatorHz ∧ t.timeoutExpired = false)

/-- Rules R102 and R197: `POLL` is `SAMPLE`, `DRAIN_EXPIRY`, `TICK` as three separate steps in that order, and a `POLL` whose sample asserts
the debounced input, or one after the expiry line fired, leaves the output disarmed. -/
def Obligations.PollIsSampleDrainTick : Prop :=
  (stepsOf .poll = [.regWrite 32 0x00 0x06000000#32, .regWrite 32 0x00 0x08000000#32, .regWrite 32 0x00 0x07000000#32]) ∧
  (∀ s : State, s.params.valid = true → s.rst = false → ∃ a b c,
    exec .sample { s with inbox := stepsOf .poll |>.drop 1 |>.append s.inbox, draws := s.draws + 1 } = .next a ∧
    exec .drainExpiry { a with inbox := stepsOf .poll |>.drop 2 |>.append s.inbox, draws := s.draws + 2 } = .next b ∧
    exec .tick { b with inbox := s.inbox, draws := s.draws + 3 } = .next c ∧
    core.run 3 (issueProgram [.poll] s) = .next c ∧
    (s.msmState = .running → (s.timeoutExpired = true ∨ s.profile.interlockEnabled = true ∧ a.inputLevel = true) → c.armed = false))

/-- Rule R146: with one `TICK` in every millisecond from the start of a polled waveform, the level is low for one half-period, high for the
next, and so on: after `n` milliseconds it is the parity of `n` divided by the half-period. Lines that come due meanwhile fire, and
take no part. (No wrap of `now_ms` in the interval, rule R303.) -/
def Obligations.PolledWaveHasItsPeriod : Prop :=
  ∀ (s t : State) (idx : Half) (n hp : Nat), s.params.valid = true → s.params.waveBackend = .polled →
    exec (.applyMode idx) s = .next t → t.cmdIgnored = false → t.armed = true →
    hp = halfPeriod s.params (modeAt s.params idx).frequencyHz → s.nowMs.toNat + n + hp < 2 ^ 32 →
    (tickEveryMs n t).outputLevel = decide (n / hp % 2 = 1) ∧
    (tickEveryMs n t).nextToggleMs.toNat = s.nowMs.toNat + (n / hp + 1) * hp ∧
    (tickEveryMs n t).armed = true

/-! ### The register space -/

/-- Rules R62 and R66: the sixteen registers stand at these offsets, and a read at one of them returns that register's value at that instant
and writes nothing of the block. The field that holds what was returned is the model's own (log entry 14). -/
def Obligations.RegisterReadWritesNothing : Prop :=
  (∀ (s : State) (rest : List Event) (r : Reg), s.params.valid = true → s.rst = false → s.inbox = .regRead 32 (offsetOf r) :: rest →
    step s = .next { consumed rest s with readData := registerValue r s }) ∧
  (∀ s : State, ∀ p ∈ ([(0x00, .cmd), (0x04, .status), (0x08, .prof0), (0x0C, .prof1), (0x10, .curFreq), (0x14, .activeMode),
      (0x18, .remainingMs), (0x1C, .nowMs), (0x20, .nextToggleMs), (0x24, .lastChangeMs), (0x28, .indHz), (0x2C, .frameLo),
      (0x30, .frameHi), (0x34, .actProf0), (0x38, .actProf1), (0x3C, .reserved)] : List (Nat × Reg)),
    offsetOf p.2 = p.1 ∧ accessed 32 p.1 = some p.2 ∧ readValue 32 p.1 s = registerValue p.2 s) ∧
  (∀ (s : State) (rest : List Event) (off : Nat), s.params.valid = true → s.rst = false → s.inbox = .regRead 32 off :: rest →
    step s = .next { consumed rest s with readData := readValue 32 off s })

/-- Rule R64: an access of another width, at an offset that is not a multiple of 4, or at `0x40` or more has no effect; a read returns 0. -/
def Obligations.RefusedAccessHasNoEffect : Prop :=
  ∀ (s : State) (rest : List Event) (bits off : Nat), s.params.valid = true → s.rst = false →
    (bits ≠ 32 ∨ off % 4 ≠ 0 ∨ 0x40 ≤ off) →
    (s.inbox = .regRead bits off :: rest → step s = .next { consumed rest s with readData := 0#32 }) ∧
    (∀ v, s.inbox = .regWrite bits off v :: rest → step s = .next (consumed rest s))

/-- Rules R62, R68 to R72 and R80: what each of the sixteen offsets reads as: `STATUS` bit by bit, its reserved half 0, the value registers
zero-extended, the two profiles and the frame field by field, and 0 at `CMD` and at the reserved offset. -/
def Obligations.StatusWordFields : Prop :=
  ∀ s : State,
    (readValue 32 0x04 s).extractLsb' 0 2 = (match s.msmState with | .safe => 0#2 | .standby => 1#2 | .running => 2#2) ∧
    (readValue 32 0x04 s).extractLsb' 2 2 = (match s.pinState with | .hiZ => 0#2 | .drivenLow => 1#2 | .activeWaveform => 2#2) ∧
    (readValue 32 0x04 s).getLsbD 4 = s.armed ∧ (readValue 32 0x04 s).getLsbD 5 = s.outputLevel ∧
    (readValue 32 0x04 s).getLsbD 6 = s.inputLevel ∧ (readValue 32 0x04 s).getLsbD 7 = s.waveformPhase ∧
    (readValue 32 0x04 s).getLsbD 8 = s.limitEnabled ∧ (readValue 32 0x04 s).getLsbD 9 = s.timeoutExpired ∧
    (readValue 32 0x04 s).getLsbD 10 = s.tickArmed ∧ (readValue 32 0x04 s).getLsbD 11 = s.expiryArmed ∧
    (readValue 32 0x04 s).getLsbD 12 = s.dbInit ∧ (readValue 32 0x04 s).getLsbD 13 = s.lastRaw ∧
    (readValue 32 0x04 s).getLsbD 14 = s.chRunning ∧ (readValue 32 0x04 s).getLsbD 15 = s.cmdIgnored ∧
    (readValue 32 0x04 s).extractLsb' 16 16 = 0#16 ∧
    readValue 32 0x08 s = s.staged.debounceMs ++ s.staged.dutyPercent ++ 0#5 ++ BitVec.ofBool s.staged.bootAllOff
      ++ BitVec.ofBool s.staged.interlockEnabled ++ BitVec.ofBool s.staged.activeHigh ∧
    readValue 32 0x0C s = 0#16 ++ s.staged.frequencyHz ∧
    readValue 32 0x10 s = 0#16 ++ s.currentFrequencyHz ∧ readValue 32 0x14 s = 0#16 ++ s.activeModeIndex ∧
    readValue 32 0x18 s = s.remainingMs ∧ readValue 32 0x1C s = s.nowMs ∧ readValue 32 0x20 s = s.nextToggleMs ∧
    readValue 32 0x24 s = s.lastInputChangeMs ∧ readValue 32 0x28 s = 0#16 ++ s.indicatorHz ∧
    readValue 32 0x2C s = s.frameBuf.payloadMsb ++ s.frameBuf.payloadLsb ++ s.frameBuf.cmd ++ s.frameBuf.id ∧
    readValue 32 0x30 s = 0#24 ++ s.frameBuf.checksum ∧
    readValue 32 0x34 s = s.profile.debounceMs ++ s.profile.dutyPercent ++ 0#5 ++ BitVec.ofBool s.profile.bootAllOff
      ++ BitVec.ofBool s.profile.interlockEnabled ++ BitVec.ofBool s.profile.activeHigh ∧
    readValue 32 0x38 s = 0#16 ++ s.profile.frequencyHz ∧
    readValue 32 0x00 s = 0#32 ∧ readValue 32 0x3C s = 0#32

/-- Rules R69, R70 and R80: a write to `PROF0` or `PROF1` stores the fields and nothing else; the register reads back what was written with
its reserved bits 0, and after `APPLY_PROFILE` the active profile's registers read the same with the frequency clamped. -/
def Obligations.ProfileRegistersStoreAndLatch : Prop :=
  ∀ (s : State) (rest : List Event) (v : Word), s.params.valid = true → s.rst = false →
    (s.inbox = .regWrite 32 0x08 v :: rest → ∃ t, step s = .next t ∧
      t = { consumed rest s with staged := ⟨v.getLsbD 0, v.extractLsb' 16 16, s.staged.frequencyHz, v.extractLsb' 8 8,
        v.getLsbD 1, v.getLsbD 2⟩ } ∧
      registerValue .prof0 t = v &&& 0xFFFFFF07#32 ∧ registerValue .prof1 t = registerValue .prof1 s) ∧
    (s.inbox = .regWrite 32 0x0C v :: rest → ∃ t, step s = .next t ∧
      t = { consumed rest s with staged := { s.staged with frequencyHz := v.extractLsb' 0 16 } } ∧
      registerValue .prof1 t = v &&& 0x0000FFFF#32 ∧ registerValue .prof0 t = registerValue .prof0 s) ∧
    (∃ t, exec .applyProfile s = .next t ∧ registerValue .actProf0 t = registerValue .prof0 s ∧
      (registerValue .actProf1 t).toNat =
        max s.params.fMin.toNat (min s.params.fMax.toNat (registerValue .prof1 s).toNat) ∧
      registerValue .prof0 t = registerValue .prof0 s ∧ registerValue .prof1 t = registerValue .prof1 s)

/-- Rules R63 and R72: the five frame bytes as `FRAME_LO` and `FRAME_HI` pack them, byte `k` at the `k`-th byte of the two registers. -/
def Obligations.FrameRegistersPackLittleEndian : Prop :=
  ∀ s : State,
    registerValue .frameLo s = BitVec.ofNat 32 (s.frameBuf.id.toNat + 2 ^ 8 * s.frameBuf.cmd.toNat
      + 2 ^ 16 * s.frameBuf.payloadLsb.toNat + 2 ^ 24 * s.frameBuf.payloadMsb.toNat) ∧
    registerValue .frameHi s = BitVec.ofNat 32 s.frameBuf.checksum.toNat ∧
    byteAt 0x2C s = s.frameBuf.id ∧ byteAt 0x2D s = s.frameBuf.cmd ∧ byteAt 0x2E s = s.frameBuf.payloadLsb ∧
    byteAt 0x2F s = s.frameBuf.payloadMsb ∧ byteAt 0x30 s = s.frameBuf.checksum

/-- Rules R65 and R67: a write anywhere but `CMD`, `PROF0` and `PROF1` has no effect, and offset `0x3C` and `CMD` read 0. -/
def Obligations.ReadOnlyRegistersIgnoreWrites : Prop :=
  ∀ (s : State) (rest : List Event) (r : Reg) (v : Word), s.params.valid = true → s.rst = false →
    s.inbox = .regWrite 32 (offsetOf r) v :: rest → r ∉ [.cmd, .prof0, .prof1] →
    step s = .next (consumed rest s) ∧ registerValue .reserved s = 0#32 ∧ registerValue .cmd s = 0#32

/-! ### Arithmetic -/

/-- Rule R13: the clamp is the nearer bound outside the range and the identity inside it, and it is idempotent. -/
def Obligations.ClampFreqIsNearestBound : Prop :=
  ∀ (p : Params) (f : Half), p.valid = true →
    (clampFreq p f).toNat = max p.fMin.toNat (min p.fMax.toNat f.toNat) ∧
    clampFreq p (clampFreq p f) = clampFreq p f ∧ clampFreq p 0#16 = p.fMin

/-- Rule R14: the half-period is `max(1, 500 div clamp_freq(f))`, never 0, and with the default range it is the table of the rule. -/
def Obligations.HalfPeriodTable : Prop :=
  (∀ (p : Params) (f : Half), halfPeriod p f = max 1 (500 / (clampFreq p f).toNat) ∧ 1 ≤ halfPeriod p f) ∧
  (∀ (p : Params) (f : Half), p.fMin = 66#16 → p.fMax = 150#16 →
    halfPeriod p f = if f.toNat ≤ 71 then 7 else if f.toNat ≤ 83 then 6 else if f.toNat ≤ 100 then 5
      else if f.toNat ≤ 125 then 4 else 3)

/-- Rules R17 and R253: the five bytes of a frame sum to 0 modulo 256, whatever the four are, and the checksum of a sum of 0 is 0. -/
def Obligations.ChecksumClosesFrame : Prop :=
  ∀ id cmd lsb msb : Byte,
    (id.toNat + cmd.toNat + lsb.toNat + msb.toNat + (checksum id cmd lsb msb).toNat) % 256 = 0 ∧
    ((id.toNat + cmd.toNat + lsb.toNat + msb.toNat) % 256 = 0 → checksum id cmd lsb msb = 0x00#8)

/-- Rules R16 and R18: the duration never wraps, the decrement saturates at 0, and a speed is clamped from above only. -/
def Obligations.CountdownAndSpeedArithmetic : Prop :=
  (∀ m : Mode, (durationMs m).toNat = m.defaultTimeoutSeconds.toNat * 1000) ∧
  (∀ r : Word, (satSub1000 r).toNat = r.toNat - 1000) ∧
  (∀ (p : Params) (r : Half), (clampRpm p r).toNat = min r.toNat p.rpmMax.toNat ∧
    payloadLsb r = BitVec.ofNat 8 r.toNat ∧ payloadMsb r = BitVec.ofNat 8 (r.toNat / 256) ∧
    (payloadMsb r ++ payloadLsb r : BitVec 16) = r)

/-! ### Reset and pad -/

/-- Rule R52: what reset leaves in every element, for every device variant `p`: the table's value, or for an element the rule calls
unspecified the value `u` drawn at this reset, whatever it is. -/
def Obligations.ResetValues : Prop :=
  ∀ (p : Params) (u : Unspecified),
    let s := State.resetFor p u
    s.msmState = .safe ∧ s.pinState = .hiZ ∧ s.armed = false ∧ s.outputLevel = false ∧ s.waveformPhase = false ∧
    s.currentFrequencyHz = 0#16 ∧ s.inputLevel = false ∧ s.lastRaw = false ∧ s.dbInit = false ∧ s.lastInputChangeMs = 0#32 ∧
    s.nextToggleMs = 0#32 ∧ s.activeModeIndex = 0#16 ∧ s.remainingMs = 0#32 ∧ s.timeoutExpired = false ∧ s.tickArmed = false ∧
    s.expiryArmed = false ∧ s.tickNextMs = 0#32 ∧ s.expiryDeadlineMs = 0#32 ∧ s.nowMs = 0#32 ∧ s.chRunning = false ∧
    s.chFreqHz = 0#16 ∧ s.chDuty = 0#8 ∧ s.indicatorHz = 0#16 ∧ s.frameBuf = ⟨0#8, 0#8, 0#8, 0#8, 0#8⟩ ∧
    s.cmdIgnored = false ∧ s.pinTrace = [] ∧ s.limitEnabled = u.limitEnabled ∧ s.profile = u.profile ∧ s.staged = u.staged ∧
    padOe s = false ∧ indHz s = 0#16

/-- Rule R290: asserting `rst` in any state gives the reset state, with some value of the unspecified elements; while it is asserted no step
of any agent has an effect; its release changes nothing else. That a step offered meanwhile is dropped, and that the input pad keeps its
level, are the model's choices (log entry 10). -/
def Obligations.AssertedResetHoldsTheBlock : Prop :=
  ∀ (s : State) (rest : List Event), s.params.valid = true →
    (s.rst = false → s.inbox = .rst true :: rest → ∃ u, step s = .next { State.resetFor s.params u with
      rst := true, pinIn := s.pinIn, inbox := rest, readData := s.readData, draws := s.draws + 1 }) ∧
    (s.rst = true → (∀ e, s.inbox = e :: rest → e ≠ .rst false → step s = .next (consumed rest s)) ∧
      (s.inbox = [] → step s = .next (consumed [] s))) ∧
    (s.rst = true → s.inbox = .rst false :: rest → step s = .next { consumed rest s with rst := false })

/-- Rule R47: the pad as a function of the state; `active_high` inverts the polled waveform only, and driven low is the physical level 0. -/
def Obligations.PadFollowsPinState : Prop :=
  ∀ s : State,
    (padOe s = true ↔ s.pinState ≠ .hiZ) ∧ (s.pinState = .hiZ → padOut s = none) ∧
    (s.pinState = .drivenLow → padOut s = some false) ∧
    (s.pinState = .activeWaveform → s.params.waveBackend = .polled → s.profile.activeHigh = true → padOut s = some s.outputLevel) ∧
    (s.pinState = .activeWaveform → s.params.waveBackend = .polled → s.profile.activeHigh = false → padOut s = some (!s.outputLevel)) ∧
    (s.pinState = .activeWaveform → s.params.waveBackend = .channel → ∃ level, padOut s = some level) ∧
    indHz s = s.indicatorHz

/-! ### The assembler's environment statements -/

/-- Rules R101 and R236: the statement `AT t` fires what is due, advances `now_ms` when nothing is, and is over at `now_ms = t` with nothing
due. From every state it ends, and only the timer context's elements and `now_ms` have changed. Two clauses are the model's choice: that the
statement names which of two lines due together fires first, where rule R236 says any order (log entry 5), and that its end is a turn of its
own that changes no element (log entry 11). -/
def Obligations.AtRunsUntilItsTime : Prop :=
  ∀ (s : State) (rest : List Event) (t : Word) (tickFirst : Bool),
    s.params.valid = true → s.rst = false → s.inbox = stepsOf (.runTo t tickFirst) ++ rest →
    (s.tickArmed = true ∧ s.nowMs = s.tickNextMs → tickFirst = true ∨ ¬ (s.expiryArmed = true ∧ s.nowMs = s.expiryDeadlineMs) →
      step s = .next { s with
        draws := s.draws + 1, remainingMs := BitVec.ofNat 32 (s.remainingMs.toNat - 1000), tickNextMs := s.tickNextMs + 1000#32 }) ∧
    (s.expiryArmed = true ∧ s.nowMs = s.expiryDeadlineMs → tickFirst = false ∨ ¬ (s.tickArmed = true ∧ s.nowMs = s.tickNextMs) →
      step s = .next { s with draws := s.draws + 1, timeoutExpired := true, expiryArmed := false }) ∧
    (¬ (s.tickArmed = true ∧ s.nowMs = s.tickNextMs) → ¬ (s.expiryArmed = true ∧ s.nowMs = s.expiryDeadlineMs) →
      (s.nowMs ≠ t → step s = .next { s with draws := s.draws + 1, nowMs := s.nowMs + 1#32 }) ∧
      (s.nowMs = t → step s = .next (consumed rest s))) ∧
    (∃ k u, k ≤ 3 * (t - s.nowMs).toNat + 3 ∧ core.run k s = .next u ∧
      ¬ (u.tickArmed = true ∧ t = u.tickNextMs) ∧ ¬ (u.expiryArmed = true ∧ t = u.expiryDeadlineMs) ∧
      u = { s with
        inbox := rest, nowMs := t, remainingMs := u.remainingMs, timeoutExpired := u.timeoutExpired,
        tickNextMs := u.tickNextMs, expiryArmed := u.expiryArmed, draws := u.draws })

/-- Rules R46 and R267: a change of the raw input level sets `pin_in` and writes nothing of the block, and no step sees the level but a
`SAMPLE`: any other step does the same whatever it is. That a move of the waveform channel changes no element is the model's choice (log
entry 11; the level itself is free, rule R150). -/
def Obligations.RawInputIsSeenOnlyBySample : Prop :=
  (∀ (s : State) (rest : List Event) (level : Bool), s.params.valid = true → s.rst = false →
    (s.inbox = stepsOf (.pin level) ++ rest → step s = .next { consumed rest s with pinIn := level }) ∧
    (s.inbox = .channelMoves :: rest → step s = .next (consumed rest s))) ∧
  (∀ (s t : State) (level : Bool), step s = .next t →
    (∀ l rest, s.inbox ≠ .pinIn l :: rest) → (∀ rest, s.inbox ≠ .regWrite 32 0x00 0x06000000#32 :: rest) →
    step { s with pinIn := level } = .next { t with pinIn := level })
end

