-- ==== Sys2Proof/Laws/State.lean ====
section
/-! SUPPORT. One lemma per field per update of the state, so that no later proof unfolds a record update: what each shared operation of
Ops.lean, Flags.lean, Timer.lean and Events.lean leaves in each field. A field whose new value depends on a case (the trace, the channel,
a deadline) has its lemma in Laws/Ops.lean. -/
namespace Sys2Proof
namespace Machine

/-! ### waveStop -/

@[simp] theorem waveStop_params (s : State) : (waveStop s).params = s.params := rfl
@[simp] theorem waveStop_rst (s : State) : (waveStop s).rst = s.rst := rfl
@[simp] theorem waveStop_pinIn (s : State) : (waveStop s).pinIn = s.pinIn := rfl
@[simp] theorem waveStop_inbox (s : State) : (waveStop s).inbox = s.inbox := rfl
@[simp] theorem waveStop_readData (s : State) : (waveStop s).readData = s.readData := rfl
@[simp] theorem waveStop_draws (s : State) : (waveStop s).draws = s.draws := rfl
@[simp] theorem waveStop_outputLevel (s : State) : (waveStop s).outputLevel = false := rfl
@[simp] theorem waveStop_inputLevel (s : State) : (waveStop s).inputLevel = s.inputLevel := rfl
@[simp] theorem waveStop_lastInputChangeMs (s : State) : (waveStop s).lastInputChangeMs = s.lastInputChangeMs := rfl
@[simp] theorem waveStop_nextToggleMs (s : State) : (waveStop s).nextToggleMs = s.nextToggleMs := rfl
@[simp] theorem waveStop_waveformPhase (s : State) : (waveStop s).waveformPhase = false := rfl
@[simp] theorem waveStop_currentFrequencyHz (s : State) : (waveStop s).currentFrequencyHz = s.currentFrequencyHz := rfl
@[simp] theorem waveStop_armed (s : State) : (waveStop s).armed = s.armed := rfl
@[simp] theorem waveStop_msmState (s : State) : (waveStop s).msmState = s.msmState := rfl
@[simp] theorem waveStop_activeModeIndex (s : State) : (waveStop s).activeModeIndex = s.activeModeIndex := rfl
@[simp] theorem waveStop_remainingMs (s : State) : (waveStop s).remainingMs = s.remainingMs := rfl
@[simp] theorem waveStop_timeoutExpired (s : State) : (waveStop s).timeoutExpired = s.timeoutExpired := rfl
@[simp] theorem waveStop_limitEnabled (s : State) : (waveStop s).limitEnabled = s.limitEnabled := rfl
@[simp] theorem waveStop_pinState (s : State) : (waveStop s).pinState = s.pinState := rfl
@[simp] theorem waveStop_profile (s : State) : (waveStop s).profile = s.profile := rfl
@[simp] theorem waveStop_staged (s : State) : (waveStop s).staged = s.staged := rfl
@[simp] theorem waveStop_lastRaw (s : State) : (waveStop s).lastRaw = s.lastRaw := rfl
@[simp] theorem waveStop_dbInit (s : State) : (waveStop s).dbInit = s.dbInit := rfl
@[simp] theorem waveStop_tickArmed (s : State) : (waveStop s).tickArmed = s.tickArmed := rfl
@[simp] theorem waveStop_tickNextMs (s : State) : (waveStop s).tickNextMs = s.tickNextMs := rfl
@[simp] theorem waveStop_expiryArmed (s : State) : (waveStop s).expiryArmed = s.expiryArmed := rfl
@[simp] theorem waveStop_expiryDeadlineMs (s : State) : (waveStop s).expiryDeadlineMs = s.expiryDeadlineMs := rfl
@[simp] theorem waveStop_nowMs (s : State) : (waveStop s).nowMs = s.nowMs := rfl
@[simp] theorem waveStop_chFreqHz (s : State) : (waveStop s).chFreqHz = s.chFreqHz := rfl
@[simp] theorem waveStop_chDuty (s : State) : (waveStop s).chDuty = s.chDuty := rfl
@[simp] theorem waveStop_indicatorHz (s : State) : (waveStop s).indicatorHz = s.indicatorHz := rfl
@[simp] theorem waveStop_frameBuf (s : State) : (waveStop s).frameBuf = s.frameBuf := rfl
@[simp] theorem waveStop_cmdIgnored (s : State) : (waveStop s).cmdIgnored = s.cmdIgnored := rfl

/-! ### toHighImpedance -/

@[simp] theorem toHighImpedance_params (s : State) : (toHighImpedance s).params = s.params := rfl
@[simp] theorem toHighImpedance_rst (s : State) : (toHighImpedance s).rst = s.rst := rfl
@[simp] theorem toHighImpedance_pinIn (s : State) : (toHighImpedance s).pinIn = s.pinIn := rfl
@[simp] theorem toHighImpedance_inbox (s : State) : (toHighImpedance s).inbox = s.inbox := rfl
@[simp] theorem toHighImpedance_readData (s : State) : (toHighImpedance s).readData = s.readData := rfl
@[simp] theorem toHighImpedance_draws (s : State) : (toHighImpedance s).draws = s.draws := rfl
@[simp] theorem toHighImpedance_outputLevel (s : State) : (toHighImpedance s).outputLevel = false := rfl
@[simp] theorem toHighImpedance_inputLevel (s : State) : (toHighImpedance s).inputLevel = s.inputLevel := rfl
@[simp] theorem toHighImpedance_lastInputChangeMs (s : State) : (toHighImpedance s).lastInputChangeMs = s.lastInputChangeMs := rfl
@[simp] theorem toHighImpedance_nextToggleMs (s : State) : (toHighImpedance s).nextToggleMs = s.nextToggleMs := rfl
@[simp] theorem toHighImpedance_waveformPhase (s : State) : (toHighImpedance s).waveformPhase = false := rfl
@[simp] theorem toHighImpedance_currentFrequencyHz (s : State) : (toHighImpedance s).currentFrequencyHz = s.currentFrequencyHz := rfl
@[simp] theorem toHighImpedance_armed (s : State) : (toHighImpedance s).armed = s.armed := rfl
@[simp] theorem toHighImpedance_msmState (s : State) : (toHighImpedance s).msmState = s.msmState := rfl
@[simp] theorem toHighImpedance_activeModeIndex (s : State) : (toHighImpedance s).activeModeIndex = s.activeModeIndex := rfl
@[simp] theorem toHighImpedance_remainingMs (s : State) : (toHighImpedance s).remainingMs = s.remainingMs := rfl
@[simp] theorem toHighImpedance_timeoutExpired (s : State) : (toHighImpedance s).timeoutExpired = s.timeoutExpired := rfl
@[simp] theorem toHighImpedance_limitEnabled (s : State) : (toHighImpedance s).limitEnabled = s.limitEnabled := rfl
@[simp] theorem toHighImpedance_pinState (s : State) : (toHighImpedance s).pinState = .hiZ := rfl
@[simp] theorem toHighImpedance_profile (s : State) : (toHighImpedance s).profile = s.profile := rfl
@[simp] theorem toHighImpedance_staged (s : State) : (toHighImpedance s).staged = s.staged := rfl
@[simp] theorem toHighImpedance_lastRaw (s : State) : (toHighImpedance s).lastRaw = s.lastRaw := rfl
@[simp] theorem toHighImpedance_dbInit (s : State) : (toHighImpedance s).dbInit = s.dbInit := rfl
@[simp] theorem toHighImpedance_tickArmed (s : State) : (toHighImpedance s).tickArmed = s.tickArmed := rfl
@[simp] theorem toHighImpedance_tickNextMs (s : State) : (toHighImpedance s).tickNextMs = s.tickNextMs := rfl
@[simp] theorem toHighImpedance_expiryArmed (s : State) : (toHighImpedance s).expiryArmed = s.expiryArmed := rfl
@[simp] theorem toHighImpedance_expiryDeadlineMs (s : State) : (toHighImpedance s).expiryDeadlineMs = s.expiryDeadlineMs := rfl
@[simp] theorem toHighImpedance_nowMs (s : State) : (toHighImpedance s).nowMs = s.nowMs := rfl
@[simp] theorem toHighImpedance_chFreqHz (s : State) : (toHighImpedance s).chFreqHz = s.chFreqHz := rfl
@[simp] theorem toHighImpedance_chDuty (s : State) : (toHighImpedance s).chDuty = s.chDuty := rfl
@[simp] theorem toHighImpedance_indicatorHz (s : State) : (toHighImpedance s).indicatorHz = s.indicatorHz := rfl
@[simp] theorem toHighImpedance_frameBuf (s : State) : (toHighImpedance s).frameBuf = s.frameBuf := rfl
@[simp] theorem toHighImpedance_cmdIgnored (s : State) : (toHighImpedance s).cmdIgnored = s.cmdIgnored := rfl

/-! ### toDrivenLow -/

@[simp] theorem toDrivenLow_params (s : State) : (toDrivenLow s).params = s.params := rfl
@[simp] theorem toDrivenLow_rst (s : State) : (toDrivenLow s).rst = s.rst := rfl
@[simp] theorem toDrivenLow_pinIn (s : State) : (toDrivenLow s).pinIn = s.pinIn := rfl
@[simp] theorem toDrivenLow_inbox (s : State) : (toDrivenLow s).inbox = s.inbox := rfl
@[simp] theorem toDrivenLow_readData (s : State) : (toDrivenLow s).readData = s.readData := rfl
@[simp] theorem toDrivenLow_draws (s : State) : (toDrivenLow s).draws = s.draws := rfl
@[simp] theorem toDrivenLow_outputLevel (s : State) : (toDrivenLow s).outputLevel = false := rfl
@[simp] theorem toDrivenLow_inputLevel (s : State) : (toDrivenLow s).inputLevel = s.inputLevel := rfl
@[simp] theorem toDrivenLow_lastInputChangeMs (s : State) : (toDrivenLow s).lastInputChangeMs = s.lastInputChangeMs := rfl
@[simp] theorem toDrivenLow_nextToggleMs (s : State) : (toDrivenLow s).nextToggleMs = s.nextToggleMs := rfl
@[simp] theorem toDrivenLow_waveformPhase (s : State) : (toDrivenLow s).waveformPhase = false := rfl
@[simp] theorem toDrivenLow_currentFrequencyHz (s : State) : (toDrivenLow s).currentFrequencyHz = s.currentFrequencyHz := rfl
@[simp] theorem toDrivenLow_armed (s : State) : (toDrivenLow s).armed = s.armed := rfl
@[simp] theorem toDrivenLow_msmState (s : State) : (toDrivenLow s).msmState = s.msmState := rfl
@[simp] theorem toDrivenLow_activeModeIndex (s : State) : (toDrivenLow s).activeModeIndex = s.activeModeIndex := rfl
@[simp] theorem toDrivenLow_remainingMs (s : State) : (toDrivenLow s).remainingMs = s.remainingMs := rfl
@[simp] theorem toDrivenLow_timeoutExpired (s : State) : (toDrivenLow s).timeoutExpired = s.timeoutExpired := rfl
@[simp] theorem toDrivenLow_limitEnabled (s : State) : (toDrivenLow s).limitEnabled = s.limitEnabled := rfl
@[simp] theorem toDrivenLow_pinState (s : State) : (toDrivenLow s).pinState = .drivenLow := rfl
@[simp] theorem toDrivenLow_profile (s : State) : (toDrivenLow s).profile = s.profile := rfl
@[simp] theorem toDrivenLow_staged (s : State) : (toDrivenLow s).staged = s.staged := rfl
@[simp] theorem toDrivenLow_lastRaw (s : State) : (toDrivenLow s).lastRaw = s.lastRaw := rfl
@[simp] theorem toDrivenLow_dbInit (s : State) : (toDrivenLow s).dbInit = s.dbInit := rfl
@[simp] theorem toDrivenLow_tickArmed (s : State) : (toDrivenLow s).tickArmed = s.tickArmed := rfl
@[simp] theorem toDrivenLow_tickNextMs (s : State) : (toDrivenLow s).tickNextMs = s.tickNextMs := rfl
@[simp] theorem toDrivenLow_expiryArmed (s : State) : (toDrivenLow s).expiryArmed = s.expiryArmed := rfl
@[simp] theorem toDrivenLow_expiryDeadlineMs (s : State) : (toDrivenLow s).expiryDeadlineMs = s.expiryDeadlineMs := rfl
@[simp] theorem toDrivenLow_nowMs (s : State) : (toDrivenLow s).nowMs = s.nowMs := rfl
@[simp] theorem toDrivenLow_chFreqHz (s : State) : (toDrivenLow s).chFreqHz = s.chFreqHz := rfl
@[simp] theorem toDrivenLow_chDuty (s : State) : (toDrivenLow s).chDuty = s.chDuty := rfl
@[simp] theorem toDrivenLow_indicatorHz (s : State) : (toDrivenLow s).indicatorHz = s.indicatorHz := rfl
@[simp] theorem toDrivenLow_frameBuf (s : State) : (toDrivenLow s).frameBuf = s.frameBuf := rfl
@[simp] theorem toDrivenLow_cmdIgnored (s : State) : (toDrivenLow s).cmdIgnored = s.cmdIgnored := rfl

/-! ### toActiveWaveform -/

@[simp] theorem toActiveWaveform_params (f : Half) (s : State) : (toActiveWaveform f s).params = s.params := by
  cases h : s.params.waveBackend <;> simp [toActiveWaveform, h, startChannel, startPolled, logPin, waveStop]
@[simp] theorem toActiveWaveform_rst (f : Half) (s : State) : (toActiveWaveform f s).rst = s.rst := by
  cases h : s.params.waveBackend <;> simp [toActiveWaveform, h, startChannel, startPolled, logPin, waveStop]
@[simp] theorem toActiveWaveform_pinIn (f : Half) (s : State) : (toActiveWaveform f s).pinIn = s.pinIn := by
  cases h : s.params.waveBackend <;> simp [toActiveWaveform, h, startChannel, startPolled, logPin, waveStop]
@[simp] theorem toActiveWaveform_inbox (f : Half) (s : State) : (toActiveWaveform f s).inbox = s.inbox := by
  cases h : s.params.waveBackend <;> simp [toActiveWaveform, h, startChannel, startPolled, logPin, waveStop]
@[simp] theorem toActiveWaveform_readData (f : Half) (s : State) : (toActiveWaveform f s).readData = s.readData := by
  cases h : s.params.waveBackend <;> simp [toActiveWaveform, h, startChannel, startPolled, logPin, waveStop]
@[simp] theorem toActiveWaveform_draws (f : Half) (s : State) : (toActiveWaveform f s).draws = s.draws := by
  cases h : s.params.waveBackend <;> simp [toActiveWaveform, h, startChannel, startPolled, logPin, waveStop]
@[simp] theorem toActiveWaveform_outputLevel (f : Half) (s : State) : (toActiveWaveform f s).outputLevel = false := by
  cases h : s.params.waveBackend <;> simp [toActiveWaveform, h, startChannel, startPolled, logPin, waveStop]
@[simp] theorem toActiveWaveform_inputLevel (f : Half) (s : State) : (toActiveWaveform f s).inputLevel = s.inputLevel := by
  cases h : s.params.waveBackend <;> simp [toActiveWaveform, h, startChannel, startPolled, logPin, waveStop]
@[simp] theorem toActiveWaveform_lastInputChangeMs (f : Half) (s : State) : (toActiveWaveform f s).lastInputChangeMs = s.lastInputChangeMs := by
  cases h : s.params.waveBackend <;> simp [toActiveWaveform, h, startChannel, startPolled, logPin, waveStop]
@[simp] theorem toActiveWaveform_waveformPhase (f : Half) (s : State) : (toActiveWaveform f s).waveformPhase = false := by
  cases h : s.params.waveBackend <;> simp [toActiveWaveform, h, startChannel, startPolled, logPin, waveStop]
@[simp] theorem toActiveWaveform_currentFrequencyHz (f : Half) (s : State) : (toActiveWaveform f s).currentFrequencyHz = s.currentFrequencyHz := by
  cases h : s.params.waveBackend <;> simp [toActiveWaveform, h, startChannel, startPolled, logPin, waveStop]
@[simp] theorem toActiveWaveform_armed (f : Half) (s : State) : (toActiveWaveform f s).armed = s.armed := by
  cases h : s.params.waveBackend <;> simp [toActiveWaveform, h, startChannel, startPolled, logPin, waveStop]
@[simp] theorem toActiveWaveform_msmState (f : Half) (s : State) : (toActiveWaveform f s).msmState = s.msmState := by
  cases h : s.params.waveBackend <;> simp [toActiveWaveform, h, startChannel, startPolled, logPin, waveStop]
@[simp] theorem toActiveWaveform_activeModeIndex (f : Half) (s : State) : (toActiveWaveform f s).activeModeIndex = s.activeModeIndex := by
  cases h : s.params.waveBackend <;> simp [toActiveWaveform, h, startChannel, startPolled, logPin, waveStop]
@[simp] theorem toActiveWaveform_remainingMs (f : Half) (s : State) : (toActiveWaveform f s).remainingMs = s.remainingMs := by
  cases h : s.params.waveBackend <;> simp [toActiveWaveform, h, startChannel, startPolled, logPin, waveStop]
@[simp] theorem toActiveWaveform_timeoutExpired (f : Half) (s : State) : (toActiveWaveform f s).timeoutExpired = s.timeoutExpired := by
  cases h : s.params.waveBackend <;> simp [toActiveWaveform, h, startChannel, startPolled, logPin, waveStop]
@[simp] theorem toActiveWaveform_limitEnabled (f : Half) (s : State) : (toActiveWaveform f s).limitEnabled = s.limitEnabled := by
  cases h : s.params.waveBackend <;> simp [toActiveWaveform, h, startChannel, startPolled, logPin, waveStop]
@[simp] theorem toActiveWaveform_pinState (f : Half) (s : State) : (toActiveWaveform f s).pinState = .activeWaveform := by
  cases h : s.params.waveBackend <;> simp [toActiveWaveform, h, startChannel, startPolled, logPin, waveStop]
@[simp] theorem toActiveWaveform_profile (f : Half) (s : State) : (toActiveWaveform f s).profile = s.profile := by
  cases h : s.params.waveBackend <;> simp [toActiveWaveform, h, startChannel, startPolled, logPin, waveStop]
@[simp] theorem toActiveWaveform_staged (f : Half) (s : State) : (toActiveWaveform f s).staged = s.staged := by
  cases h : s.params.waveBackend <;> simp [toActiveWaveform, h, startChannel, startPolled, logPin, waveStop]
@[simp] theorem toActiveWaveform_lastRaw (f : Half) (s : State) : (toActiveWaveform f s).lastRaw = s.lastRaw := by
  cases h : s.params.waveBackend <;> simp [toActiveWaveform, h, startChannel, startPolled, logPin, waveStop]
@[simp] theorem toActiveWaveform_dbInit (f : Half) (s : State) : (toActiveWaveform f s).dbInit = s.dbInit := by
  cases h : s.params.waveBackend <;> simp [toActiveWaveform, h, startChannel, startPolled, logPin, waveStop]
@[simp] theorem toActiveWaveform_tickArmed (f : Half) (s : State) : (toActiveWaveform f s).tickArmed = s.tickArmed := by
  cases h : s.params.waveBackend <;> simp [toActiveWaveform, h, startChannel, startPolled, logPin, waveStop]
@[simp] theorem toActiveWaveform_tickNextMs (f : Half) (s : State) : (toActiveWaveform f s).tickNextMs = s.tickNextMs := by
  cases h : s.params.waveBackend <;> simp [toActiveWaveform, h, startChannel, startPolled, logPin, waveStop]
@[simp] theorem toActiveWaveform_expiryArmed (f : Half) (s : State) : (toActiveWaveform f s).expiryArmed = s.expiryArmed := by
  cases h : s.params.waveBackend <;> simp [toActiveWaveform, h, startChannel, startPolled, logPin, waveStop]
@[simp] theorem toActiveWaveform_expiryDeadlineMs (f : Half) (s : State) : (toActiveWaveform f s).expiryDeadlineMs = s.expiryDeadlineMs := by
  cases h : s.params.waveBackend <;> simp [toActiveWaveform, h, startChannel, startPolled, logPin, waveStop]
@[simp] theorem toActiveWaveform_nowMs (f : Half) (s : State) : (toActiveWaveform f s).nowMs = s.nowMs := by
  cases h : s.params.waveBackend <;> simp [toActiveWaveform, h, startChannel, startPolled, logPin, waveStop]
@[simp] theorem toActiveWaveform_indicatorHz (f : Half) (s : State) : (toActiveWaveform f s).indicatorHz = s.indicatorHz := by
  cases h : s.params.waveBackend <;> simp [toActiveWaveform, h, startChannel, startPolled, logPin, waveStop]
@[simp] theorem toActiveWaveform_frameBuf (f : Half) (s : State) : (toActiveWaveform f s).frameBuf = s.frameBuf := by
  cases h : s.params.waveBackend <;> simp [toActiveWaveform, h, startChannel, startPolled, logPin, waveStop]
@[simp] theorem toActiveWaveform_cmdIgnored (f : Half) (s : State) : (toActiveWaveform f s).cmdIgnored = s.cmdIgnored := by
  cases h : s.params.waveBackend <;> simp [toActiveWaveform, h, startChannel, startPolled, logPin, waveStop]

/-! ### disarm -/

@[simp] theorem disarm_params (s : State) : (disarm s).params = s.params := rfl
@[simp] theorem disarm_rst (s : State) : (disarm s).rst = s.rst := rfl
@[simp] theorem disarm_pinIn (s : State) : (disarm s).pinIn = s.pinIn := rfl
@[simp] theorem disarm_inbox (s : State) : (disarm s).inbox = s.inbox := rfl
@[simp] theorem disarm_readData (s : State) : (disarm s).readData = s.readData := rfl
@[simp] theorem disarm_draws (s : State) : (disarm s).draws = s.draws := rfl
@[simp] theorem disarm_outputLevel (s : State) : (disarm s).outputLevel = s.outputLevel := rfl
@[simp] theorem disarm_inputLevel (s : State) : (disarm s).inputLevel = s.inputLevel := rfl
@[simp] theorem disarm_lastInputChangeMs (s : State) : (disarm s).lastInputChangeMs = s.lastInputChangeMs := rfl
@[simp] theorem disarm_nextToggleMs (s : State) : (disarm s).nextToggleMs = s.nextToggleMs := rfl
@[simp] theorem disarm_waveformPhase (s : State) : (disarm s).waveformPhase = s.waveformPhase := rfl
@[simp] theorem disarm_currentFrequencyHz (s : State) : (disarm s).currentFrequencyHz = 0#16 := rfl
@[simp] theorem disarm_armed (s : State) : (disarm s).armed = false := rfl
@[simp] theorem disarm_msmState (s : State) : (disarm s).msmState = s.msmState := rfl
@[simp] theorem disarm_activeModeIndex (s : State) : (disarm s).activeModeIndex = s.activeModeIndex := rfl
@[simp] theorem disarm_remainingMs (s : State) : (disarm s).remainingMs = s.remainingMs := rfl
@[simp] theorem disarm_timeoutExpired (s : State) : (disarm s).timeoutExpired = s.timeoutExpired := rfl
@[simp] theorem disarm_limitEnabled (s : State) : (disarm s).limitEnabled = s.limitEnabled := rfl
@[simp] theorem disarm_pinState (s : State) : (disarm s).pinState = s.pinState := rfl
@[simp] theorem disarm_profile (s : State) : (disarm s).profile = s.profile := rfl
@[simp] theorem disarm_staged (s : State) : (disarm s).staged = s.staged := rfl
@[simp] theorem disarm_lastRaw (s : State) : (disarm s).lastRaw = s.lastRaw := rfl
@[simp] theorem disarm_dbInit (s : State) : (disarm s).dbInit = s.dbInit := rfl
@[simp] theorem disarm_tickArmed (s : State) : (disarm s).tickArmed = s.tickArmed := rfl
@[simp] theorem disarm_tickNextMs (s : State) : (disarm s).tickNextMs = s.tickNextMs := rfl
@[simp] theorem disarm_expiryArmed (s : State) : (disarm s).expiryArmed = s.expiryArmed := rfl
@[simp] theorem disarm_expiryDeadlineMs (s : State) : (disarm s).expiryDeadlineMs = s.expiryDeadlineMs := rfl
@[simp] theorem disarm_nowMs (s : State) : (disarm s).nowMs = s.nowMs := rfl
@[simp] theorem disarm_chRunning (s : State) : (disarm s).chRunning = s.chRunning := rfl
@[simp] theorem disarm_chFreqHz (s : State) : (disarm s).chFreqHz = s.chFreqHz := rfl
@[simp] theorem disarm_chDuty (s : State) : (disarm s).chDuty = s.chDuty := rfl
@[simp] theorem disarm_indicatorHz (s : State) : (disarm s).indicatorHz = s.indicatorHz := rfl
@[simp] theorem disarm_frameBuf (s : State) : (disarm s).frameBuf = s.frameBuf := rfl
@[simp] theorem disarm_cmdIgnored (s : State) : (disarm s).cmdIgnored = s.cmdIgnored := rfl
@[simp] theorem disarm_pinTrace (s : State) : (disarm s).pinTrace = s.pinTrace := rfl

/-! ### cancelCountdown -/

@[simp] theorem cancelCountdown_params (s : State) : (cancelCountdown s).params = s.params := rfl
@[simp] theorem cancelCountdown_rst (s : State) : (cancelCountdown s).rst = s.rst := rfl
@[simp] theorem cancelCountdown_pinIn (s : State) : (cancelCountdown s).pinIn = s.pinIn := rfl
@[simp] theorem cancelCountdown_inbox (s : State) : (cancelCountdown s).inbox = s.inbox := rfl
@[simp] theorem cancelCountdown_readData (s : State) : (cancelCountdown s).readData = s.readData := rfl
@[simp] theorem cancelCountdown_draws (s : State) : (cancelCountdown s).draws = s.draws := rfl
@[simp] theorem cancelCountdown_outputLevel (s : State) : (cancelCountdown s).outputLevel = s.outputLevel := rfl
@[simp] theorem cancelCountdown_inputLevel (s : State) : (cancelCountdown s).inputLevel = s.inputLevel := rfl
@[simp] theorem cancelCountdown_lastInputChangeMs (s : State) : (cancelCountdown s).lastInputChangeMs = s.lastInputChangeMs := rfl
@[simp] theorem cancelCountdown_nextToggleMs (s : State) : (cancelCountdown s).nextToggleMs = s.nextToggleMs := rfl
@[simp] theorem cancelCountdown_waveformPhase (s : State) : (cancelCountdown s).waveformPhase = s.waveformPhase := rfl
@[simp] theorem cancelCountdown_currentFrequencyHz (s : State) : (cancelCountdown s).currentFrequencyHz = s.currentFrequencyHz := rfl
@[simp] theorem cancelCountdown_armed (s : State) : (cancelCountdown s).armed = s.armed := rfl
@[simp] theorem cancelCountdown_msmState (s : State) : (cancelCountdown s).msmState = s.msmState := rfl
@[simp] theorem cancelCountdown_activeModeIndex (s : State) : (cancelCountdown s).activeModeIndex = s.activeModeIndex := rfl
@[simp] theorem cancelCountdown_remainingMs (s : State) : (cancelCountdown s).remainingMs = 0#32 := rfl
@[simp] theorem cancelCountdown_timeoutExpired (s : State) : (cancelCountdown s).timeoutExpired = false := rfl
@[simp] theorem cancelCountdown_limitEnabled (s : State) : (cancelCountdown s).limitEnabled = s.limitEnabled := rfl
@[simp] theorem cancelCountdown_pinState (s : State) : (cancelCountdown s).pinState = s.pinState := rfl
@[simp] theorem cancelCountdown_profile (s : State) : (cancelCountdown s).profile = s.profile := rfl
@[simp] theorem cancelCountdown_staged (s : State) : (cancelCountdown s).staged = s.staged := rfl
@[simp] theorem cancelCountdown_lastRaw (s : State) : (cancelCountdown s).lastRaw = s.lastRaw := rfl
@[simp] theorem cancelCountdown_dbInit (s : State) : (cancelCountdown s).dbInit = s.dbInit := rfl
@[simp] theorem cancelCountdown_tickArmed (s : State) : (cancelCountdown s).tickArmed = false := rfl
@[simp] theorem cancelCountdown_tickNextMs (s : State) : (cancelCountdown s).tickNextMs = s.tickNextMs := rfl
@[simp] theorem cancelCountdown_expiryArmed (s : State) : (cancelCountdown s).expiryArmed = false := rfl
@[simp] theorem cancelCountdown_expiryDeadlineMs (s : State) : (cancelCountdown s).expiryDeadlineMs = s.expiryDeadlineMs := rfl
@[simp] theorem cancelCountdown_nowMs (s : State) : (cancelCountdown s).nowMs = s.nowMs := rfl
@[simp] theorem cancelCountdown_chRunning (s : State) : (cancelCountdown s).chRunning = s.chRunning := rfl
@[simp] theorem cancelCountdown_chFreqHz (s : State) : (cancelCountdown s).chFreqHz = s.chFreqHz := rfl
@[simp] theorem cancelCountdown_chDuty (s : State) : (cancelCountdown s).chDuty = s.chDuty := rfl
@[simp] theorem cancelCountdown_indicatorHz (s : State) : (cancelCountdown s).indicatorHz = s.indicatorHz := rfl
@[simp] theorem cancelCountdown_frameBuf (s : State) : (cancelCountdown s).frameBuf = s.frameBuf := rfl
@[simp] theorem cancelCountdown_cmdIgnored (s : State) : (cancelCountdown s).cmdIgnored = s.cmdIgnored := rfl
@[simp] theorem cancelCountdown_pinTrace (s : State) : (cancelCountdown s).pinTrace = s.pinTrace := rfl

/-! ### startOrRestartCountdown -/

@[simp] theorem startOrRestartCountdown_params (s : State) : (startOrRestartCountdown s).params = s.params := by
  cases h : countdownRuns s <;> simp [startOrRestartCountdown, h, cancelCountdown]
@[simp] theorem startOrRestartCountdown_rst (s : State) : (startOrRestartCountdown s).rst = s.rst := by
  cases h : countdownRuns s <;> simp [startOrRestartCountdown, h, cancelCountdown]
@[simp] theorem startOrRestartCountdown_pinIn (s : State) : (startOrRestartCountdown s).pinIn = s.pinIn := by
  cases h : countdownRuns s <;> simp [startOrRestartCountdown, h, cancelCountdown]
@[simp] theorem startOrRestartCountdown_inbox (s : State) : (startOrRestartCountdown s).inbox = s.inbox := by
  cases h : countdownRuns s <;> simp [startOrRestartCountdown, h, cancelCountdown]
@[simp] theorem startOrRestartCountdown_readData (s : State) : (startOrRestartCountdown s).readData = s.readData := by
  cases h : countdownRuns s <;> simp [startOrRestartCountdown, h, cancelCountdown]
@[simp] theorem startOrRestartCountdown_draws (s : State) : (startOrRestartCountdown s).draws = s.draws := by
  cases h : countdownRuns s <;> simp [startOrRestartCountdown, h, cancelCountdown]
@[simp] theorem startOrRestartCountdown_outputLevel (s : State) : (startOrRestartCountdown s).outputLevel = s.outputLevel := by
  cases h : countdownRuns s <;> simp [startOrRestartCountdown, h, cancelCountdown]
@[simp] theorem startOrRestartCountdown_inputLevel (s : State) : (startOrRestartCountdown s).inputLevel = s.inputLevel := by
  cases h : countdownRuns s <;> simp [startOrRestartCountdown, h, cancelCountdown]
@[simp] theorem startOrRestartCountdown_lastInputChangeMs (s : State) : (startOrRestartCountdown s).lastInputChangeMs = s.lastInputChangeMs := by
  cases h : countdownRuns s <;> simp [startOrRestartCountdown, h, cancelCountdown]
@[simp] theorem startOrRestartCountdown_nextToggleMs (s : State) : (startOrRestartCountdown s).nextToggleMs = s.nextToggleMs := by
  cases h : countdownRuns s <;> simp [startOrRestartCountdown, h, cancelCountdown]
@[simp] theorem startOrRestartCountdown_waveformPhase (s : State) : (startOrRestartCountdown s).waveformPhase = s.waveformPhase := by
  cases h : countdownRuns s <;> simp [startOrRestartCountdown, h, cancelCountdown]
@[simp] theorem startOrRestartCountdown_currentFrequencyHz (s : State) : (startOrRestartCountdown s).currentFrequencyHz = s.currentFrequencyHz := by
  cases h : countdownRuns s <;> simp [startOrRestartCountdown, h, cancelCountdown]
@[simp] theorem startOrRestartCountdown_armed (s : State) : (startOrRestartCountdown s).armed = s.armed := by
  cases h : countdownRuns s <;> simp [startOrRestartCountdown, h, cancelCountdown]
@[simp] theorem startOrRestartCountdown_msmState (s : State) : (startOrRestartCountdown s).msmState = s.msmState := by
  cases h : countdownRuns s <;> simp [startOrRestartCountdown, h, cancelCountdown]
@[simp] theorem startOrRestartCountdown_activeModeIndex (s : State) : (startOrRestartCountdown s).activeModeIndex = s.activeModeIndex := by
  cases h : countdownRuns s <;> simp [startOrRestartCountdown, h, cancelCountdown]
@[simp] theorem startOrRestartCountdown_timeoutExpired (s : State) : (startOrRestartCountdown s).timeoutExpired = false := by
  cases h : countdownRuns s <;> simp [startOrRestartCountdown, h, cancelCountdown]
@[simp] theorem startOrRestartCountdown_limitEnabled (s : State) : (startOrRestartCountdown s).limitEnabled = s.limitEnabled := by
  cases h : countdownRuns s <;> simp [startOrRestartCountdown, h, cancelCountdown]
@[simp] theorem startOrRestartCountdown_pinState (s : State) : (startOrRestartCountdown s).pinState = s.pinState := by
  cases h : countdownRuns s <;> simp [startOrRestartCountdown, h, cancelCountdown]
@[simp] theorem startOrRestartCountdown_profile (s : State) : (startOrRestartCountdown s).profile = s.profile := by
  cases h : countdownRuns s <;> simp [startOrRestartCountdown, h, cancelCountdown]
@[simp] theorem startOrRestartCountdown_staged (s : State) : (startOrRestartCountdown s).staged = s.staged := by
  cases h : countdownRuns s <;> simp [startOrRestartCountdown, h, cancelCountdown]
@[simp] theorem startOrRestartCountdown_lastRaw (s : State) : (startOrRestartCountdown s).lastRaw = s.lastRaw := by
  cases h : countdownRuns s <;> simp [startOrRestartCountdown, h, cancelCountdown]
@[simp] theorem startOrRestartCountdown_dbInit (s : State) : (startOrRestartCountdown s).dbInit = s.dbInit := by
  cases h : countdownRuns s <;> simp [startOrRestartCountdown, h, cancelCountdown]
@[simp] theorem startOrRestartCountdown_tickArmed (s : State) : (startOrRestartCountdown s).tickArmed = countdownRuns s := by
  cases h : countdownRuns s <;> simp [startOrRestartCountdown, h, cancelCountdown]
@[simp] theorem startOrRestartCountdown_expiryArmed (s : State) : (startOrRestartCountdown s).expiryArmed = countdownRuns s := by
  cases h : countdownRuns s <;> simp [startOrRestartCountdown, h, cancelCountdown]
@[simp] theorem startOrRestartCountdown_nowMs (s : State) : (startOrRestartCountdown s).nowMs = s.nowMs := by
  cases h : countdownRuns s <;> simp [startOrRestartCountdown, h, cancelCountdown]
@[simp] theorem startOrRestartCountdown_chRunning (s : State) : (startOrRestartCountdown s).chRunning = s.chRunning := by
  cases h : countdownRuns s <;> simp [startOrRestartCountdown, h, cancelCountdown]
@[simp] theorem startOrRestartCountdown_chFreqHz (s : State) : (startOrRestartCountdown s).chFreqHz = s.chFreqHz := by
  cases h : countdownRuns s <;> simp [startOrRestartCountdown, h, cancelCountdown]
@[simp] theorem startOrRestartCountdown_chDuty (s : State) : (startOrRestartCountdown s).chDuty = s.chDuty := by
  cases h : countdownRuns s <;> simp [startOrRestartCountdown, h, cancelCountdown]
@[simp] theorem startOrRestartCountdown_indicatorHz (s : State) : (startOrRestartCountdown s).indicatorHz = s.indicatorHz := by
  cases h : countdownRuns s <;> simp [startOrRestartCountdown, h, cancelCountdown]
@[simp] theorem startOrRestartCountdown_frameBuf (s : State) : (startOrRestartCountdown s).frameBuf = s.frameBuf := by
  cases h : countdownRuns s <;> simp [startOrRestartCountdown, h, cancelCountdown]
@[simp] theorem startOrRestartCountdown_cmdIgnored (s : State) : (startOrRestartCountdown s).cmdIgnored = s.cmdIgnored := by
  cases h : countdownRuns s <;> simp [startOrRestartCountdown, h, cancelCountdown]
@[simp] theorem startOrRestartCountdown_pinTrace (s : State) : (startOrRestartCountdown s).pinTrace = s.pinTrace := by
  cases h : countdownRuns s <;> simp [startOrRestartCountdown, h, cancelCountdown]

/-! ### genTick -/

@[simp] theorem genTick_params (s : State) : (genTick s).params = s.params := rfl
@[simp] theorem genTick_rst (s : State) : (genTick s).rst = s.rst := rfl
@[simp] theorem genTick_pinIn (s : State) : (genTick s).pinIn = s.pinIn := rfl
@[simp] theorem genTick_inbox (s : State) : (genTick s).inbox = s.inbox := rfl
@[simp] theorem genTick_readData (s : State) : (genTick s).readData = s.readData := rfl
@[simp] theorem genTick_draws (s : State) : (genTick s).draws = s.draws := rfl
@[simp] theorem genTick_inputLevel (s : State) : (genTick s).inputLevel = s.inputLevel := rfl
@[simp] theorem genTick_lastInputChangeMs (s : State) : (genTick s).lastInputChangeMs = s.lastInputChangeMs := rfl
@[simp] theorem genTick_currentFrequencyHz (s : State) : (genTick s).currentFrequencyHz = s.currentFrequencyHz := rfl
@[simp] theorem genTick_armed (s : State) : (genTick s).armed = s.armed := rfl
@[simp] theorem genTick_msmState (s : State) : (genTick s).msmState = s.msmState := rfl
@[simp] theorem genTick_activeModeIndex (s : State) : (genTick s).activeModeIndex = s.activeModeIndex := rfl
@[simp] theorem genTick_remainingMs (s : State) : (genTick s).remainingMs = s.remainingMs := rfl
@[simp] theorem genTick_timeoutExpired (s : State) : (genTick s).timeoutExpired = s.timeoutExpired := rfl
@[simp] theorem genTick_limitEnabled (s : State) : (genTick s).limitEnabled = s.limitEnabled := rfl
@[simp] theorem genTick_pinState (s : State) : (genTick s).pinState = s.pinState := rfl
@[simp] theorem genTick_profile (s : State) : (genTick s).profile = s.profile := rfl
@[simp] theorem genTick_staged (s : State) : (genTick s).staged = s.staged := rfl
@[simp] theorem genTick_lastRaw (s : State) : (genTick s).lastRaw = s.lastRaw := rfl
@[simp] theorem genTick_dbInit (s : State) : (genTick s).dbInit = s.dbInit := rfl
@[simp] theorem genTick_tickArmed (s : State) : (genTick s).tickArmed = s.tickArmed := rfl
@[simp] theorem genTick_tickNextMs (s : State) : (genTick s).tickNextMs = s.tickNextMs := rfl
@[simp] theorem genTick_expiryArmed (s : State) : (genTick s).expiryArmed = s.expiryArmed := rfl
@[simp] theorem genTick_expiryDeadlineMs (s : State) : (genTick s).expiryDeadlineMs = s.expiryDeadlineMs := rfl
@[simp] theorem genTick_nowMs (s : State) : (genTick s).nowMs = s.nowMs := rfl
@[simp] theorem genTick_chRunning (s : State) : (genTick s).chRunning = s.chRunning := rfl
@[simp] theorem genTick_chFreqHz (s : State) : (genTick s).chFreqHz = s.chFreqHz := rfl
@[simp] theorem genTick_chDuty (s : State) : (genTick s).chDuty = s.chDuty := rfl
@[simp] theorem genTick_indicatorHz (s : State) : (genTick s).indicatorHz = s.indicatorHz := rfl
@[simp] theorem genTick_frameBuf (s : State) : (genTick s).frameBuf = s.frameBuf := rfl
@[simp] theorem genTick_cmdIgnored (s : State) : (genTick s).cmdIgnored = s.cmdIgnored := rfl
@[simp] theorem genTick_pinTrace (s : State) : (genTick s).pinTrace = s.pinTrace := rfl

/-! ### ignoreCommand -/

@[simp] theorem ignoreCommand_params (s : State) : (ignoreCommand s).params = s.params := rfl
@[simp] theorem ignoreCommand_rst (s : State) : (ignoreCommand s).rst = s.rst := rfl
@[simp] theorem ignoreCommand_pinIn (s : State) : (ignoreCommand s).pinIn = s.pinIn := rfl
@[simp] theorem ignoreCommand_inbox (s : State) : (ignoreCommand s).inbox = s.inbox := rfl
@[simp] theorem ignoreCommand_readData (s : State) : (ignoreCommand s).readData = s.readData := rfl
@[simp] theorem ignoreCommand_draws (s : State) : (ignoreCommand s).draws = s.draws := rfl
@[simp] theorem ignoreCommand_outputLevel (s : State) : (ignoreCommand s).outputLevel = s.outputLevel := rfl
@[simp] theorem ignoreCommand_inputLevel (s : State) : (ignoreCommand s).inputLevel = s.inputLevel := rfl
@[simp] theorem ignoreCommand_lastInputChangeMs (s : State) : (ignoreCommand s).lastInputChangeMs = s.lastInputChangeMs := rfl
@[simp] theorem ignoreCommand_nextToggleMs (s : State) : (ignoreCommand s).nextToggleMs = s.nextToggleMs := rfl
@[simp] theorem ignoreCommand_waveformPhase (s : State) : (ignoreCommand s).waveformPhase = s.waveformPhase := rfl
@[simp] theorem ignoreCommand_currentFrequencyHz (s : State) : (ignoreCommand s).currentFrequencyHz = s.currentFrequencyHz := rfl
@[simp] theorem ignoreCommand_armed (s : State) : (ignoreCommand s).armed = s.armed := rfl
@[simp] theorem ignoreCommand_msmState (s : State) : (ignoreCommand s).msmState = s.msmState := rfl
@[simp] theorem ignoreCommand_activeModeIndex (s : State) : (ignoreCommand s).activeModeIndex = s.activeModeIndex := rfl
@[simp] theorem ignoreCommand_remainingMs (s : State) : (ignoreCommand s).remainingMs = s.remainingMs := rfl
@[simp] theorem ignoreCommand_timeoutExpired (s : State) : (ignoreCommand s).timeoutExpired = s.timeoutExpired := rfl
@[simp] theorem ignoreCommand_limitEnabled (s : State) : (ignoreCommand s).limitEnabled = s.limitEnabled := rfl
@[simp] theorem ignoreCommand_pinState (s : State) : (ignoreCommand s).pinState = s.pinState := rfl
@[simp] theorem ignoreCommand_profile (s : State) : (ignoreCommand s).profile = s.profile := rfl
@[simp] theorem ignoreCommand_staged (s : State) : (ignoreCommand s).staged = s.staged := rfl
@[simp] theorem ignoreCommand_lastRaw (s : State) : (ignoreCommand s).lastRaw = s.lastRaw := rfl
@[simp] theorem ignoreCommand_dbInit (s : State) : (ignoreCommand s).dbInit = s.dbInit := rfl
@[simp] theorem ignoreCommand_tickArmed (s : State) : (ignoreCommand s).tickArmed = s.tickArmed := rfl
@[simp] theorem ignoreCommand_tickNextMs (s : State) : (ignoreCommand s).tickNextMs = s.tickNextMs := rfl
@[simp] theorem ignoreCommand_expiryArmed (s : State) : (ignoreCommand s).expiryArmed = s.expiryArmed := rfl
@[simp] theorem ignoreCommand_expiryDeadlineMs (s : State) : (ignoreCommand s).expiryDeadlineMs = s.expiryDeadlineMs := rfl
@[simp] theorem ignoreCommand_nowMs (s : State) : (ignoreCommand s).nowMs = s.nowMs := rfl
@[simp] theorem ignoreCommand_chRunning (s : State) : (ignoreCommand s).chRunning = s.chRunning := rfl
@[simp] theorem ignoreCommand_chFreqHz (s : State) : (ignoreCommand s).chFreqHz = s.chFreqHz := rfl
@[simp] theorem ignoreCommand_chDuty (s : State) : (ignoreCommand s).chDuty = s.chDuty := rfl
@[simp] theorem ignoreCommand_indicatorHz (s : State) : (ignoreCommand s).indicatorHz = s.indicatorHz := rfl
@[simp] theorem ignoreCommand_frameBuf (s : State) : (ignoreCommand s).frameBuf = s.frameBuf := rfl
@[simp] theorem ignoreCommand_cmdIgnored (s : State) : (ignoreCommand s).cmdIgnored = true := rfl
@[simp] theorem ignoreCommand_pinTrace (s : State) : (ignoreCommand s).pinTrace = s.pinTrace := rfl

/-! ### executed -/

@[simp] theorem executed_params (s : State) : (executed s).params = s.params := rfl
@[simp] theorem executed_rst (s : State) : (executed s).rst = s.rst := rfl
@[simp] theorem executed_pinIn (s : State) : (executed s).pinIn = s.pinIn := rfl
@[simp] theorem executed_inbox (s : State) : (executed s).inbox = s.inbox := rfl
@[simp] theorem executed_readData (s : State) : (executed s).readData = s.readData := rfl
@[simp] theorem executed_draws (s : State) : (executed s).draws = s.draws := rfl
@[simp] theorem executed_outputLevel (s : State) : (executed s).outputLevel = s.outputLevel := rfl
@[simp] theorem executed_inputLevel (s : State) : (executed s).inputLevel = s.inputLevel := rfl
@[simp] theorem executed_lastInputChangeMs (s : State) : (executed s).lastInputChangeMs = s.lastInputChangeMs := rfl
@[simp] theorem executed_nextToggleMs (s : State) : (executed s).nextToggleMs = s.nextToggleMs := rfl
@[simp] theorem executed_waveformPhase (s : State) : (executed s).waveformPhase = s.waveformPhase := rfl
@[simp] theorem executed_currentFrequencyHz (s : State) : (executed s).currentFrequencyHz = s.currentFrequencyHz := rfl
@[simp] theorem executed_armed (s : State) : (executed s).armed = s.armed := rfl
@[simp] theorem executed_msmState (s : State) : (executed s).msmState = s.msmState := rfl
@[simp] theorem executed_activeModeIndex (s : State) : (executed s).activeModeIndex = s.activeModeIndex := rfl
@[simp] theorem executed_remainingMs (s : State) : (executed s).remainingMs = s.remainingMs := rfl
@[simp] theorem executed_timeoutExpired (s : State) : (executed s).timeoutExpired = s.timeoutExpired := rfl
@[simp] theorem executed_limitEnabled (s : State) : (executed s).limitEnabled = s.limitEnabled := rfl
@[simp] theorem executed_pinState (s : State) : (executed s).pinState = s.pinState := rfl
@[simp] theorem executed_profile (s : State) : (executed s).profile = s.profile := rfl
@[simp] theorem executed_staged (s : State) : (executed s).staged = s.staged := rfl
@[simp] theorem executed_lastRaw (s : State) : (executed s).lastRaw = s.lastRaw := rfl
@[simp] theorem executed_dbInit (s : State) : (executed s).dbInit = s.dbInit := rfl
@[simp] theorem executed_tickArmed (s : State) : (executed s).tickArmed = s.tickArmed := rfl
@[simp] theorem executed_tickNextMs (s : State) : (executed s).tickNextMs = s.tickNextMs := rfl
@[simp] theorem executed_expiryArmed (s : State) : (executed s).expiryArmed = s.expiryArmed := rfl
@[simp] theorem executed_expiryDeadlineMs (s : State) : (executed s).expiryDeadlineMs = s.expiryDeadlineMs := rfl
@[simp] theorem executed_nowMs (s : State) : (executed s).nowMs = s.nowMs := rfl
@[simp] theorem executed_chRunning (s : State) : (executed s).chRunning = s.chRunning := rfl
@[simp] theorem executed_chFreqHz (s : State) : (executed s).chFreqHz = s.chFreqHz := rfl
@[simp] theorem executed_chDuty (s : State) : (executed s).chDuty = s.chDuty := rfl
@[simp] theorem executed_indicatorHz (s : State) : (executed s).indicatorHz = s.indicatorHz := rfl
@[simp] theorem executed_frameBuf (s : State) : (executed s).frameBuf = s.frameBuf := rfl
@[simp] theorem executed_cmdIgnored (s : State) : (executed s).cmdIgnored = false := rfl
@[simp] theorem executed_pinTrace (s : State) : (executed s).pinTrace = s.pinTrace := rfl

/-! ### tickFire -/

@[simp] theorem tickFire_params (s : State) : (tickFire s).params = s.params := rfl
@[simp] theorem tickFire_rst (s : State) : (tickFire s).rst = s.rst := rfl
@[simp] theorem tickFire_pinIn (s : State) : (tickFire s).pinIn = s.pinIn := rfl
@[simp] theorem tickFire_inbox (s : State) : (tickFire s).inbox = s.inbox := rfl
@[simp] theorem tickFire_readData (s : State) : (tickFire s).readData = s.readData := rfl
@[simp] theorem tickFire_draws (s : State) : (tickFire s).draws = s.draws := rfl
@[simp] theorem tickFire_outputLevel (s : State) : (tickFire s).outputLevel = s.outputLevel := rfl
@[simp] theorem tickFire_inputLevel (s : State) : (tickFire s).inputLevel = s.inputLevel := rfl
@[simp] theorem tickFire_lastInputChangeMs (s : State) : (tickFire s).lastInputChangeMs = s.lastInputChangeMs := rfl
@[simp] theorem tickFire_nextToggleMs (s : State) : (tickFire s).nextToggleMs = s.nextToggleMs := rfl
@[simp] theorem tickFire_waveformPhase (s : State) : (tickFire s).waveformPhase = s.waveformPhase := rfl
@[simp] theorem tickFire_currentFrequencyHz (s : State) : (tickFire s).currentFrequencyHz = s.currentFrequencyHz := rfl
@[simp] theorem tickFire_armed (s : State) : (tickFire s).armed = s.armed := rfl
@[simp] theorem tickFire_msmState (s : State) : (tickFire s).msmState = s.msmState := rfl
@[simp] theorem tickFire_activeModeIndex (s : State) : (tickFire s).activeModeIndex = s.activeModeIndex := rfl
@[simp] theorem tickFire_remainingMs (s : State) : (tickFire s).remainingMs = satSub1000 s.remainingMs := rfl
@[simp] theorem tickFire_timeoutExpired (s : State) : (tickFire s).timeoutExpired = s.timeoutExpired := rfl
@[simp] theorem tickFire_limitEnabled (s : State) : (tickFire s).limitEnabled = s.limitEnabled := rfl
@[simp] theorem tickFire_pinState (s : State) : (tickFire s).pinState = s.pinState := rfl
@[simp] theorem tickFire_profile (s : State) : (tickFire s).profile = s.profile := rfl
@[simp] theorem tickFire_staged (s : State) : (tickFire s).staged = s.staged := rfl
@[simp] theorem tickFire_lastRaw (s : State) : (tickFire s).lastRaw = s.lastRaw := rfl
@[simp] theorem tickFire_dbInit (s : State) : (tickFire s).dbInit = s.dbInit := rfl
@[simp] theorem tickFire_tickArmed (s : State) : (tickFire s).tickArmed = s.tickArmed := rfl
@[simp] theorem tickFire_tickNextMs (s : State) : (tickFire s).tickNextMs = afterMs s.tickNextMs Config.tickPeriodMs := rfl
@[simp] theorem tickFire_expiryArmed (s : State) : (tickFire s).expiryArmed = s.expiryArmed := rfl
@[simp] theorem tickFire_expiryDeadlineMs (s : State) : (tickFire s).expiryDeadlineMs = s.expiryDeadlineMs := rfl
@[simp] theorem tickFire_nowMs (s : State) : (tickFire s).nowMs = s.nowMs := rfl
@[simp] theorem tickFire_chRunning (s : State) : (tickFire s).chRunning = s.chRunning := rfl
@[simp] theorem tickFire_chFreqHz (s : State) : (tickFire s).chFreqHz = s.chFreqHz := rfl
@[simp] theorem tickFire_chDuty (s : State) : (tickFire s).chDuty = s.chDuty := rfl
@[simp] theorem tickFire_indicatorHz (s : State) : (tickFire s).indicatorHz = s.indicatorHz := rfl
@[simp] theorem tickFire_frameBuf (s : State) : (tickFire s).frameBuf = s.frameBuf := rfl
@[simp] theorem tickFire_cmdIgnored (s : State) : (tickFire s).cmdIgnored = s.cmdIgnored := rfl
@[simp] theorem tickFire_pinTrace (s : State) : (tickFire s).pinTrace = s.pinTrace := rfl

/-! ### expiryFire -/

@[simp] theorem expiryFire_params (s : State) : (expiryFire s).params = s.params := rfl
@[simp] theorem expiryFire_rst (s : State) : (expiryFire s).rst = s.rst := rfl
@[simp] theorem expiryFire_pinIn (s : State) : (expiryFire s).pinIn = s.pinIn := rfl
@[simp] theorem expiryFire_inbox (s : State) : (expiryFire s).inbox = s.inbox := rfl
@[simp] theorem expiryFire_readData (s : State) : (expiryFire s).readData = s.readData := rfl
@[simp] theorem expiryFire_draws (s : State) : (expiryFire s).draws = s.draws := rfl
@[simp] theorem expiryFire_outputLevel (s : State) : (expiryFire s).outputLevel = s.outputLevel := rfl
@[simp] theorem expiryFire_inputLevel (s : State) : (expiryFire s).inputLevel = s.inputLevel := rfl
@[simp] theorem expiryFire_lastInputChangeMs (s : State) : (expiryFire s).lastInputChangeMs = s.lastInputChangeMs := rfl
@[simp] theorem expiryFire_nextToggleMs (s : State) : (expiryFire s).nextToggleMs = s.nextToggleMs := rfl
@[simp] theorem expiryFire_waveformPhase (s : State) : (expiryFire s).waveformPhase = s.waveformPhase := rfl
@[simp] theorem expiryFire_currentFrequencyHz (s : State) : (expiryFire s).currentFrequencyHz = s.currentFrequencyHz := rfl
@[simp] theorem expiryFire_armed (s : State) : (expiryFire s).armed = s.armed := rfl
@[simp] theorem expiryFire_msmState (s : State) : (expiryFire s).msmState = s.msmState := rfl
@[simp] theorem expiryFire_activeModeIndex (s : State) : (expiryFire s).activeModeIndex = s.activeModeIndex := rfl
@[simp] theorem expiryFire_remainingMs (s : State) : (expiryFire s).remainingMs = s.remainingMs := rfl
@[simp] theorem expiryFire_timeoutExpired (s : State) : (expiryFire s).timeoutExpired = true := rfl
@[simp] theorem expiryFire_limitEnabled (s : State) : (expiryFire s).limitEnabled = s.limitEnabled := rfl
@[simp] theorem expiryFire_pinState (s : State) : (expiryFire s).pinState = s.pinState := rfl
@[simp] theorem expiryFire_profile (s : State) : (expiryFire s).profile = s.profile := rfl
@[simp] theorem expiryFire_staged (s : State) : (expiryFire s).staged = s.staged := rfl
@[simp] theorem expiryFire_lastRaw (s : State) : (expiryFire s).lastRaw = s.lastRaw := rfl
@[simp] theorem expiryFire_dbInit (s : State) : (expiryFire s).dbInit = s.dbInit := rfl
@[simp] theorem expiryFire_tickArmed (s : State) : (expiryFire s).tickArmed = s.tickArmed := rfl
@[simp] theorem expiryFire_tickNextMs (s : State) : (expiryFire s).tickNextMs = s.tickNextMs := rfl
@[simp] theorem expiryFire_expiryArmed (s : State) : (expiryFire s).expiryArmed = false := rfl
@[simp] theorem expiryFire_expiryDeadlineMs (s : State) : (expiryFire s).expiryDeadlineMs = s.expiryDeadlineMs := rfl
@[simp] theorem expiryFire_nowMs (s : State) : (expiryFire s).nowMs = s.nowMs := rfl
@[simp] theorem expiryFire_chRunning (s : State) : (expiryFire s).chRunning = s.chRunning := rfl
@[simp] theorem expiryFire_chFreqHz (s : State) : (expiryFire s).chFreqHz = s.chFreqHz := rfl
@[simp] theorem expiryFire_chDuty (s : State) : (expiryFire s).chDuty = s.chDuty := rfl
@[simp] theorem expiryFire_indicatorHz (s : State) : (expiryFire s).indicatorHz = s.indicatorHz := rfl
@[simp] theorem expiryFire_frameBuf (s : State) : (expiryFire s).frameBuf = s.frameBuf := rfl
@[simp] theorem expiryFire_cmdIgnored (s : State) : (expiryFire s).cmdIgnored = s.cmdIgnored := rfl
@[simp] theorem expiryFire_pinTrace (s : State) : (expiryFire s).pinTrace = s.pinTrace := rfl

/-! ### timeAdvance -/

@[simp] theorem timeAdvance_params (s : State) : (timeAdvance s).params = s.params := rfl
@[simp] theorem timeAdvance_rst (s : State) : (timeAdvance s).rst = s.rst := rfl
@[simp] theorem timeAdvance_pinIn (s : State) : (timeAdvance s).pinIn = s.pinIn := rfl
@[simp] theorem timeAdvance_inbox (s : State) : (timeAdvance s).inbox = s.inbox := rfl
@[simp] theorem timeAdvance_readData (s : State) : (timeAdvance s).readData = s.readData := rfl
@[simp] theorem timeAdvance_draws (s : State) : (timeAdvance s).draws = s.draws := rfl
@[simp] theorem timeAdvance_outputLevel (s : State) : (timeAdvance s).outputLevel = s.outputLevel := rfl
@[simp] theorem timeAdvance_inputLevel (s : State) : (timeAdvance s).inputLevel = s.inputLevel := rfl
@[simp] theorem timeAdvance_lastInputChangeMs (s : State) : (timeAdvance s).lastInputChangeMs = s.lastInputChangeMs := rfl
@[simp] theorem timeAdvance_nextToggleMs (s : State) : (timeAdvance s).nextToggleMs = s.nextToggleMs := rfl
@[simp] theorem timeAdvance_waveformPhase (s : State) : (timeAdvance s).waveformPhase = s.waveformPhase := rfl
@[simp] theorem timeAdvance_currentFrequencyHz (s : State) : (timeAdvance s).currentFrequencyHz = s.currentFrequencyHz := rfl
@[simp] theorem timeAdvance_armed (s : State) : (timeAdvance s).armed = s.armed := rfl
@[simp] theorem timeAdvance_msmState (s : State) : (timeAdvance s).msmState = s.msmState := rfl
@[simp] theorem timeAdvance_activeModeIndex (s : State) : (timeAdvance s).activeModeIndex = s.activeModeIndex := rfl
@[simp] theorem timeAdvance_remainingMs (s : State) : (timeAdvance s).remainingMs = s.remainingMs := rfl
@[simp] theorem timeAdvance_timeoutExpired (s : State) : (timeAdvance s).timeoutExpired = s.timeoutExpired := rfl
@[simp] theorem timeAdvance_limitEnabled (s : State) : (timeAdvance s).limitEnabled = s.limitEnabled := rfl
@[simp] theorem timeAdvance_pinState (s : State) : (timeAdvance s).pinState = s.pinState := rfl
@[simp] theorem timeAdvance_profile (s : State) : (timeAdvance s).profile = s.profile := rfl
@[simp] theorem timeAdvance_staged (s : State) : (timeAdvance s).staged = s.staged := rfl
@[simp] theorem timeAdvance_lastRaw (s : State) : (timeAdvance s).lastRaw = s.lastRaw := rfl
@[simp] theorem timeAdvance_dbInit (s : State) : (timeAdvance s).dbInit = s.dbInit := rfl
@[simp] theorem timeAdvance_tickArmed (s : State) : (timeAdvance s).tickArmed = s.tickArmed := rfl
@[simp] theorem timeAdvance_tickNextMs (s : State) : (timeAdvance s).tickNextMs = s.tickNextMs := rfl
@[simp] theorem timeAdvance_expiryArmed (s : State) : (timeAdvance s).expiryArmed = s.expiryArmed := rfl
@[simp] theorem timeAdvance_expiryDeadlineMs (s : State) : (timeAdvance s).expiryDeadlineMs = s.expiryDeadlineMs := rfl
@[simp] theorem timeAdvance_nowMs (s : State) : (timeAdvance s).nowMs = s.nowMs + 1#32 := rfl
@[simp] theorem timeAdvance_chRunning (s : State) : (timeAdvance s).chRunning = s.chRunning := rfl
@[simp] theorem timeAdvance_chFreqHz (s : State) : (timeAdvance s).chFreqHz = s.chFreqHz := rfl
@[simp] theorem timeAdvance_chDuty (s : State) : (timeAdvance s).chDuty = s.chDuty := rfl
@[simp] theorem timeAdvance_indicatorHz (s : State) : (timeAdvance s).indicatorHz = s.indicatorHz := rfl
@[simp] theorem timeAdvance_frameBuf (s : State) : (timeAdvance s).frameBuf = s.frameBuf := rfl
@[simp] theorem timeAdvance_cmdIgnored (s : State) : (timeAdvance s).cmdIgnored = s.cmdIgnored := rfl
@[simp] theorem timeAdvance_pinTrace (s : State) : (timeAdvance s).pinTrace = s.pinTrace := rfl

/-! ### drawn -/

@[simp] theorem drawn_params (s : State) : (drawn s).params = s.params := rfl
@[simp] theorem drawn_rst (s : State) : (drawn s).rst = s.rst := rfl
@[simp] theorem drawn_pinIn (s : State) : (drawn s).pinIn = s.pinIn := rfl
@[simp] theorem drawn_inbox (s : State) : (drawn s).inbox = s.inbox := rfl
@[simp] theorem drawn_readData (s : State) : (drawn s).readData = s.readData := rfl
@[simp] theorem drawn_draws (s : State) : (drawn s).draws = s.draws + 1 := rfl
@[simp] theorem drawn_outputLevel (s : State) : (drawn s).outputLevel = s.outputLevel := rfl
@[simp] theorem drawn_inputLevel (s : State) : (drawn s).inputLevel = s.inputLevel := rfl
@[simp] theorem drawn_lastInputChangeMs (s : State) : (drawn s).lastInputChangeMs = s.lastInputChangeMs := rfl
@[simp] theorem drawn_nextToggleMs (s : State) : (drawn s).nextToggleMs = s.nextToggleMs := rfl
@[simp] theorem drawn_waveformPhase (s : State) : (drawn s).waveformPhase = s.waveformPhase := rfl
@[simp] theorem drawn_currentFrequencyHz (s : State) : (drawn s).currentFrequencyHz = s.currentFrequencyHz := rfl
@[simp] theorem drawn_armed (s : State) : (drawn s).armed = s.armed := rfl
@[simp] theorem drawn_msmState (s : State) : (drawn s).msmState = s.msmState := rfl
@[simp] theorem drawn_activeModeIndex (s : State) : (drawn s).activeModeIndex = s.activeModeIndex := rfl
@[simp] theorem drawn_remainingMs (s : State) : (drawn s).remainingMs = s.remainingMs := rfl
@[simp] theorem drawn_timeoutExpired (s : State) : (drawn s).timeoutExpired = s.timeoutExpired := rfl
@[simp] theorem drawn_limitEnabled (s : State) : (drawn s).limitEnabled = s.limitEnabled := rfl
@[simp] theorem drawn_pinState (s : State) : (drawn s).pinState = s.pinState := rfl
@[simp] theorem drawn_profile (s : State) : (drawn s).profile = s.profile := rfl
@[simp] theorem drawn_staged (s : State) : (drawn s).staged = s.staged := rfl
@[simp] theorem drawn_lastRaw (s : State) : (drawn s).lastRaw = s.lastRaw := rfl
@[simp] theorem drawn_dbInit (s : State) : (drawn s).dbInit = s.dbInit := rfl
@[simp] theorem drawn_tickArmed (s : State) : (drawn s).tickArmed = s.tickArmed := rfl
@[simp] theorem drawn_tickNextMs (s : State) : (drawn s).tickNextMs = s.tickNextMs := rfl
@[simp] theorem drawn_expiryArmed (s : State) : (drawn s).expiryArmed = s.expiryArmed := rfl
@[simp] theorem drawn_expiryDeadlineMs (s : State) : (drawn s).expiryDeadlineMs = s.expiryDeadlineMs := rfl
@[simp] theorem drawn_nowMs (s : State) : (drawn s).nowMs = s.nowMs := rfl
@[simp] theorem drawn_chRunning (s : State) : (drawn s).chRunning = s.chRunning := rfl
@[simp] theorem drawn_chFreqHz (s : State) : (drawn s).chFreqHz = s.chFreqHz := rfl
@[simp] theorem drawn_chDuty (s : State) : (drawn s).chDuty = s.chDuty := rfl
@[simp] theorem drawn_indicatorHz (s : State) : (drawn s).indicatorHz = s.indicatorHz := rfl
@[simp] theorem drawn_frameBuf (s : State) : (drawn s).frameBuf = s.frameBuf := rfl
@[simp] theorem drawn_cmdIgnored (s : State) : (drawn s).cmdIgnored = s.cmdIgnored := rfl
@[simp] theorem drawn_pinTrace (s : State) : (drawn s).pinTrace = s.pinTrace := rfl

end Machine
end Sys2Proof
end

