-- ==== Sys2Proof/Laws/Ops.lean ====
section
/-! SUPPORT. One lemma per shared operation that says once what it does: the pin operations, the countdown, the debounce filter, the two
forced transitions, the arithmetic, the register access, the timer context, and the cases of a step. -/
namespace Sys2Proof
namespace Machine

theorem channelToStop_eq_true (s : State) : channelToStop s = true ↔ s.params.waveBackend = .channel ∧ s.chRunning = true := by
  simp [channelToStop]

theorem waveStop_trace (s : State) : (waveStop s).pinTrace = s.pinTrace ++ stopEvents s := by
  by_cases h : s.params.waveBackend = .channel ∧ s.chRunning = true
  · simp [waveStop, stopEvents, (channelToStop_eq_true s).2 h, h]
  · simp [waveStop, stopEvents, mt (channelToStop_eq_true s).1 h, h]

theorem waveStop_chRunning (s : State) : (waveStop s).chRunning = runningAfterStop s := by
  by_cases h : s.params.waveBackend = .channel
  · cases hr : s.chRunning <;> simp [waveStop, channelToStop, runningAfterStop, h, hr]
  · simp [waveStop, channelToStop, runningAfterStop, h]

theorem waveStop_eq (s : State) : waveStop s = { s with
    outputLevel := false, waveformPhase := false, chRunning := runningAfterStop s, pinTrace := s.pinTrace ++ stopEvents s } := by
  rw [← waveStop_trace, ← waveStop_chRunning]; rfl

theorem toDrivenLow_eq (s : State) : toDrivenLow s = { s with
    pinState := .drivenLow, outputLevel := false, waveformPhase := false, chRunning := runningAfterStop s,
    pinTrace := s.pinTrace ++ stopEvents s ++ [.setDrivenLow] } := by
  rw [toDrivenLow, waveStop_eq]; rfl

theorem toHighImpedance_eq (s : State) : toHighImpedance s = { s with
    pinState := .hiZ, outputLevel := false, waveformPhase := false, chRunning := runningAfterStop s,
    pinTrace := s.pinTrace ++ stopEvents s ++ [.setHiZ] } := by
  rw [toHighImpedance, waveStop_eq]; rfl

theorem toActiveWaveform_polled (f : Half) (s : State) (h : s.params.waveBackend = .polled) : toActiveWaveform f s = { s with
    pinState := .activeWaveform, outputLevel := false, waveformPhase := false,
    nextToggleMs := afterMs s.nowMs (halfPeriod s.params (clampFreq s.params f)),
    pinTrace := s.pinTrace ++ [.waveStop, .waveStart (clampFreq s.params f)] } := by
  simp [toActiveWaveform, h, startPolled, waveStop_eq, logPin, runningAfterStop, stopEvents]

theorem toActiveWaveform_channel (f : Half) (s : State) (h : s.params.waveBackend = .channel) : toActiveWaveform f s = { s with
    pinState := .activeWaveform, outputLevel := false, waveformPhase := false, chRunning := true,
    chFreqHz := clampFreq s.params f, chDuty := 50#8,
    pinTrace := s.pinTrace ++ stopEvents s ++ [.waveStart (clampFreq s.params f)] } := by
  simp [toActiveWaveform, h, startChannel, waveStop_eq, logPin]

theorem durationMs_eq (m : Mode) : durationMs m = BitVec.ofNat 32 (m.defaultTimeoutSeconds.toNat * 1000) := by
  apply BitVec.eq_of_toNat_eq
  simp [durationMs]

theorem startOrRestartCountdown_eq (s : State) : startOrRestartCountdown s =
    withCountdown (countdownRuns s) (modeAt s.params s.activeModeIndex).defaultTimeoutSeconds s := by
  cases h : countdownRuns s <;> simp [startOrRestartCountdown, h, withCountdown, durationMs_eq, cancelCountdown, afterMs]

theorem cancelCountdown_eq (T : Half) (s : State) : cancelCountdown s = withCountdown false T s := by
  simp [cancelCountdown, withCountdown]

theorem countdownRuns_eq (s : State) : countdownRuns s = (decide (s.msmState = .running) && s.limitEnabled &&
    decide (0 < (modeAt s.params s.activeModeIndex).defaultTimeoutSeconds.toNat)) := by
  simp [countdownRuns, BitVec.lt_def]

theorem blocked_eq (s : State) : blocked s = (s.profile.interlockEnabled && s.inputLevel) := by
  simp [blocked, allowedToDrive]

theorem modeAt_of_getElem? {p : Params} {idx : Half} {m : Mode} (h : p.modes[idx.toNat]? = some m) : modeAt p idx = m := by
  simp [modeAt, List.getD, h]

theorem modeExists_of_getElem? {p : Params} {idx : Half} {m : Mode} (h : p.modes[idx.toNat]? = some m) : modeExists p idx = true := by
  have := (List.getElem?_eq_some_iff.1 h).1
  simp [modeExists, this]

theorem recordRawChange_eq (s : State) : recordRawChange s = { s with
    lastRaw := s.pinIn, lastInputChangeMs := if s.pinIn = s.lastRaw then s.lastInputChangeMs else s.nowMs } := by
  by_cases h : s.pinIn = s.lastRaw
  · cases s
    simp only at h
    subst h
    simp [recordRawChange]
  · simp [recordRawChange, h]

theorem adoptStableLevel_eq (s : State) : adoptStableLevel s = { s with
    inputLevel := if windowPassed s then s.lastRaw else s.inputLevel } := by
  by_cases h : s.lastRaw = s.inputLevel
  · cases s
    simp only at h
    subst h
    simp [adoptStableLevel]
  · by_cases hw : windowPassed s = true
    · rw [adoptStableLevel, if_pos ⟨h, hw⟩, if_pos hw]
    · rw [adoptStableLevel, if_neg (by simp [hw]), if_neg hw]

theorem windowPassed_iff (s : State) :
    windowPassed s = true ↔ s.profile.debounceMs.toNat ≤ (s.nowMs - s.lastInputChangeMs).toNat := by
  have := s.profile.debounceMs.isLt
  simp only [windowPassed, elapsedMs, decide_eq_true_eq, BitVec.le_def, BitVec.toNat_setWidth]
  rw [Nat.mod_eq_of_lt (by omega)]

theorem interlockTrip_armed (s : State) (h : s.armed = true) : interlockTrip s = { s with
    pinState := .drivenLow, outputLevel := false, waveformPhase := false, chRunning := runningAfterStop s,
    armed := false, currentFrequencyHz := 0#16, tickArmed := false, expiryArmed := false, remainingMs := 0#32,
    timeoutExpired := false, pinTrace := s.pinTrace ++ stopEvents s ++ [.setDrivenLow] } := by
  simp only [interlockTrip, h, if_true, tripOutput, toDrivenLow_eq]; rfl

theorem interlockTrip_disarmed (s : State) (h : s.armed = false) : interlockTrip s = cancelCountdown s := by
  simp [interlockTrip, h]

theorem timeoutTransition_standby (s : State) (h : s.params.onExpiryTarget = .standby) : timeoutTransition s = { s with
    pinState := .drivenLow, outputLevel := false, waveformPhase := false, chRunning := runningAfterStop s,
    msmState := .standby, armed := false, currentFrequencyHz := 0#16, tickArmed := false, expiryArmed := false,
    remainingMs := 0#32, timeoutExpired := false, indicatorHz := 0#16,
    pinTrace := s.pinTrace ++ stopEvents s ++ [.setDrivenLow] } := by
  simp only [timeoutTransition, h, toDrivenLow_eq]; rfl

theorem timeoutTransition_safe (s : State) (h : s.params.onExpiryTarget = .safe) : timeoutTransition s = { s with
    pinState := .hiZ, outputLevel := false, waveformPhase := false, chRunning := runningAfterStop s,
    msmState := .safe, armed := false, currentFrequencyHz := 0#16, tickArmed := false, expiryArmed := false,
    remainingMs := 0#32, timeoutExpired := false, indicatorHz := 0#16,
    pinTrace := s.pinTrace ++ stopEvents s ++ [.setHiZ] } := by
  simp only [timeoutTransition, h, toHighImpedance_eq]; rfl

theorem satSub1000_toNat (r : Word) : (satSub1000 r).toNat = r.toNat - 1000 := by
  have := r.isLt
  by_cases h : 1000 ≤ r.toNat
  · have h' : (1000#32 : Word) ≤ r := by rw [BitVec.le_def]; simpa using h
    simp only [satSub1000, h', if_true, BitVec.toNat_sub]; simp; omega
  · have h' : ¬ (1000#32 : Word) ≤ r := by rw [BitVec.le_def]; simpa using h
    simp only [satSub1000, h', if_false]; simp; omega

theorem clampFreq_toNat (p : Params) (f : Half) (h : p.fMin.toNat ≤ p.fMax.toNat) :
    (clampFreq p f).toNat = max p.fMin.toNat (min p.fMax.toNat f.toNat) := by
  simp only [clampFreq]
  split
  · rename_i h1; rw [BitVec.lt_def] at h1; omega
  · rename_i h1; rw [BitVec.lt_def] at h1
    split <;> rename_i h2 <;> rw [BitVec.lt_def] at h2 <;> omega

theorem clampRpm_toNat (p : Params) (r : Half) : (clampRpm p r).toNat = min r.toNat p.rpmMax.toNat := by
  simp only [clampRpm]; split <;> rename_i h <;> rw [BitVec.lt_def] at h <;> omega

theorem halfPeriod_pos (p : Params) (f : Half) : 1 ≤ halfPeriod p f := Nat.le_max_left _ _

theorem accessed_cmd {bits off : Nat} : accessed bits off = some .cmd ↔ bits = 32 ∧ off = 0 := by
  unfold accessed
  split
  · rename_i h
    obtain ⟨rfl, h1, h2⟩ := h
    have : off / 4 < 16 := by omega
    simp only [true_and]
    constructor
    · intro hr
      have key : ∀ k < 16, registers[k]? = some Reg.cmd → k = 0 := by decide
      have := key _ this hr
      omega
    · rintro rfl; rfl
  · rename_i h; simp; intro h1 h2; subst h1 h2; simp at h

theorem accessed_offsetOf (r : Reg) : accessed 32 (offsetOf r) = some r := by cases r <;> rfl

theorem accessed_refused {bits off : Nat} (h : bits ≠ 32 ∨ off % 4 ≠ 0 ∨ 0x40 ≤ off) : accessed bits off = none := by
  unfold accessed
  rw [if_neg]
  rintro ⟨h1, h2, h3⟩
  omega

theorem lineDue_eq_false (s : State) : lineDue s = false ↔ tickDue s = false ∧ expiryDue s = false := by
  simp [lineDue]

theorem tickDue_iff (s : State) : tickDue s = true ↔ s.tickArmed = true ∧ s.nowMs = s.tickNextMs := by
  simp [tickDue]

theorem expiryDue_iff (s : State) : expiryDue s = true ↔ s.expiryArmed = true ∧ s.nowMs = s.expiryDeadlineMs := by
  simp [expiryDue]

/-- A firing of the tick line leaves the expiry line's turn as it was, and the other way round. -/
theorem expiryDue_tickFire (s : State) : expiryDue (tickFire s) = expiryDue s := rfl

theorem tickDue_expiryFire (s : State) : tickDue (expiryFire s) = tickDue s := rfl

theorem expiryDue_after_expiryFire (s : State) : expiryDue (expiryFire s) = false := by
  simp [expiryDue, expiryFire]

theorem tickDue_after_tickFire {s : State} (h : tickDue s = true) : tickDue (tickFire s) = false := by
  have hn := ((tickDue_iff s).1 h).2
  simp only [tickDue, tickFire, hn, afterMs, Bool.and_eq_false_iff, decide_eq_false_iff_not]
  right
  intro he
  have := congrArg BitVec.toNat he
  simp [Config.tickPeriodMs] at this
  omega

/-- What a due line's firing is, whatever the order says. -/
theorem fireDueLine_cases {s : State} (tickFirst : Bool) (h : lineDue s = true) :
    (tickDue s = true ∧ fireDueLine tickFirst s = tickFire s) ∨ (expiryDue s = true ∧ fireDueLine tickFirst s = expiryFire s) := by
  unfold fireDueLine expiryTurn
  cases ht : tickDue s <;> cases he : expiryDue s <;> cases tickFirst <;> simp_all [lineDue]

/-- What a millisecond does to a state: time moves by one and only the timer context's elements may change besides. -/
theorem millisecondPasses_eq (s : State) : millisecondPasses s = { s with
    nowMs := s.nowMs + 1#32, remainingMs := (millisecondPasses s).remainingMs, tickNextMs := (millisecondPasses s).tickNextMs,
    timeoutExpired := (millisecondPasses s).timeoutExpired, expiryArmed := (millisecondPasses s).expiryArmed } := by
  simp only [millisecondPasses, expiryTurn, tickTurn]
  split <;> split <;> rfl

/-- Time passes in one of three ways. -/
theorem timePasses_cases (tickFirst : Bool) (s : State) :
    (tickDue s = true ∧ timePasses tickFirst s = tickFire s) ∨
    (expiryDue s = true ∧ timePasses tickFirst s = expiryFire s) ∨
    (tickDue s = false ∧ expiryDue s = false ∧ timePasses tickFirst s = timeAdvance s) := by
  cases h : lineDue s with
  | false =>
    right; right
    have := (lineDue_eq_false s).1 h
    exact ⟨this.1, this.2, by simp [timePasses, h]⟩
  | true =>
    have ht : timePasses tickFirst s = fireDueLine tickFirst s := by simp [timePasses, h]
    rw [ht]
    rcases fireDueLine_cases tickFirst h with h' | h'
    · exact .inl h'
    · exact .inr (.inl h')

/-- One round of an `AT` statement: it is over, or it stays pending and time passes. -/
theorem untilTime_cases (t : Word) (tickFirst : Bool) (s : State) :
    (lineDue s = false ∧ s.nowMs = t ∧ untilTime t tickFirst s = s) ∨
    (¬ (lineDue s = false ∧ s.nowMs = t) ∧ untilTime t tickFirst s = keepPending (.runUntil t tickFirst) (timePasses tickFirst s)) := by
  by_cases h : lineDue s = false ∧ s.nowMs = t
  · exact .inl ⟨h.1, h.2, by rw [untilTime, if_pos h]⟩
  · exact .inr ⟨h, by rw [untilTime, if_neg h]⟩

theorem step_valid {s : State} (h : s.params.valid = true) : step s = nextStep s := by
  simp [step, h]

theorem valid_of_step {s t : State} (h : step s = .next t) : s.params.valid = true := by
  by_cases hv : s.params.valid = true
  · exact hv
  · simp [step, hv] at h

theorem nextStep_nil {s : State} (hi : s.inbox = []) : nextStep s = .next (ownStep s) := by
  simp [nextStep, hi]

theorem nextStep_in_reset {s : State} {e : Event} {rest : List Event} (hi : s.inbox = e :: rest) (hr : s.rst = true) :
    nextStep s = .next (takeEventInReset e (consumed rest s)) := by
  unfold nextStep
  rw [hi]
  exact if_pos hr

theorem nextStep_cons {s : State} {e : Event} {rest : List Event} (hi : s.inbox = e :: rest) (hr : s.rst = false) :
    nextStep s = takeEvent e (consumed rest s) := by
  unfold nextStep
  rw [hi]
  exact if_neg (by simp [hr])

/-- The cases of a step: nothing pending, an event dropped or taken during reset, an event taken. -/
theorem step_cases {s t : State} (h : step s = .next t) :
    (s.inbox = [] ∧ s.rst = true ∧ t = drawn s) ∨
    (s.inbox = [] ∧ s.rst = false ∧ t = timePasses (Config.tickLineFirst s.draws) (drawn s)) ∨
    (∃ e rest, s.inbox = e :: rest ∧ s.rst = true ∧ t = takeEventInReset e (consumed rest s)) ∨
    (∃ e rest, s.inbox = e :: rest ∧ s.rst = false ∧ takeEvent e (consumed rest s) = .next t) := by
  rw [step_valid (valid_of_step h)] at h
  cases hi : s.inbox with
  | nil =>
    rw [nextStep_nil hi, Host.Outcome.next.injEq] at h
    cases hr : s.rst with
    | true => exact .inl ⟨rfl, rfl, by simp [← h, ownStep, hr]⟩
    | false => exact .inr (.inl ⟨rfl, rfl, by simp [← h, ownStep, hr]⟩)
  | cons e rest =>
    cases hr : s.rst with
    | true =>
      rw [nextStep_in_reset hi hr, Host.Outcome.next.injEq] at h
      exact .inr (.inr (.inl ⟨e, rest, rfl, rfl, h.symm⟩))
    | false =>
      rw [nextStep_cons hi hr] at h
      exact .inr (.inr (.inr ⟨e, rest, rfl, rfl, h⟩))

/-- A run of one step more. -/
theorem core_run_succ {k : Nat} {s t : State} (h : step s = .next t) : core.run (k + 1) s = core.run k t := by
  simp only [Host.Core.run]
  rw [show core.step s = .next t from h]

/-- What a host's write does. -/
theorem busWrite_cases {bits off : Nat} {v : Word} {s t : State} (h : busWrite bits off v s = .next t) :
    (bits = 32 ∧ off = 0 ∧ runCommandWord v s = .next t) ∨
    t = s ∨ t = { s with staged := writeProf0 v s.staged } ∨ t = { s with staged := writeProf1 v s.staged } := by
  unfold busWrite at h
  split at h
  · rename_i ha
    exact .inl ⟨(accessed_cmd.1 ha).1, (accessed_cmd.1 ha).2, h⟩
  · rename_i r _ _
    simp only [Host.Outcome.next.injEq] at h
    subst h
    cases r <;> simp [writeRegister]
  · simp only [Host.Outcome.next.injEq] at h
    exact .inr (.inl h.symm)

/-- A command word is a command or is ignored. -/
theorem runCommandWord_cases {v : Word} {s t : State} (h : runCommandWord v s = .next t) :
    (∃ i, decode v = .command i ∧ exec i s = .next t) ∨ ((∃ why, decode v = .reserved why) ∧ t = ignoreCommand s) := by
  unfold runCommandWord at h
  split at h
  · exact .inl ⟨_, ‹_›, h⟩
  · simp only [Host.Outcome.next.injEq] at h
    exact .inr ⟨⟨_, ‹_›⟩, h.symm⟩

end Machine
end Sys2Proof
end

