-- ==== Sys2Proof/Laws/PerInstr.lean ====
section
/-! SUPPORT. What is said of every command as syntax, one lemma per command (rules R91 and R94): the fields of its word. -/
namespace Sys2Proof
namespace Laws
namespace EncodedFields

/-- The opcode byte of each command (rule R93). -/
def opcodeOf : Instr → Byte
  | .powerOn => 0x01#8
  | .powerOff => 0x02#8
  | .applyMode _ => 0x03#8
  | .setLimit _ => 0x04#8
  | .applyProfile => 0x05#8
  | .sample => 0x06#8
  | .tick => 0x07#8
  | .drainExpiry => 0x08#8
  | .buildSetSpeed _ => 0x09#8

/-- The operand field of each command (rule R94): 0 for a command without an operand. -/
def operandOf : Instr → Half
  | .powerOn => 0#16
  | .powerOff => 0#16
  | .applyMode idx => idx
  | .setLimit b => if b then 1#16 else 0#16
  | .applyProfile => 0#16
  | .sample => 0#16
  | .tick => 0#16
  | .drainExpiry => 0#16
  | .buildSetSpeed rpm => rpm

/-- The three fields of the command word (rule R91). -/
def Statement (i : Instr) : Prop :=
  opcodeField (encode i) = opcodeOf i ∧ zeroField (encode i) = 0x00#8 ∧ operandField (encode i) = operandOf i

theorem powerOn : Statement .powerOn := ⟨rfl, rfl, rfl⟩
theorem powerOff : Statement .powerOff := ⟨rfl, rfl, rfl⟩

theorem applyMode (idx : Half) : Statement (.applyMode idx) := by
  refine ⟨?_, ?_, ?_⟩ <;> apply BitVec.eq_of_getLsbD_eq <;> intro k hk <;>
    simp [opcodeField, zeroField, operandField, encode, opcodeOf, operandOf] <;> interval_cases k <;> simp

theorem setLimit (b : Bool) : Statement (.setLimit b) := by cases b <;> exact ⟨rfl, rfl, rfl⟩
theorem applyProfile : Statement .applyProfile := ⟨rfl, rfl, rfl⟩
theorem sample : Statement .sample := ⟨rfl, rfl, rfl⟩
theorem tick : Statement .tick := ⟨rfl, rfl, rfl⟩
theorem drainExpiry : Statement .drainExpiry := ⟨rfl, rfl, rfl⟩

theorem buildSetSpeed (rpm : Half) : Statement (.buildSetSpeed rpm) := by
  refine ⟨?_, ?_, ?_⟩ <;> apply BitVec.eq_of_getLsbD_eq <;> intro k hk <;>
    simp [opcodeField, zeroField, operandField, encode, opcodeOf, operandOf] <;> interval_cases k <;> simp

end EncodedFields
end Laws
end Sys2Proof
end

