-- ==== Sys2Proof/Tests/Slice0.lean ====
section
/-! SUPPORT. Tests: expected values from the worked encodings of rule R104 and from `95_test_vectors.md` (the vector is named at each test),
and for every statement with hypotheses a state that meets them. -/
open Sys2Proof
open Sys2Proof.Machine

namespace SliceTests

/-! ### Decoding: the words of rule R104 -/

theorem test_decode_powerOn : decode 0x01000000#32 = .command .powerOn := by decide
theorem test_decode_powerOff : decode 0x02000000#32 = .command .powerOff := by decide
theorem test_decode_applyMode : decode 0x0300FFFF#32 = .command (.applyMode 65535#16) := by decide
theorem test_decode_setLimit : decode 0x04000001#32 = .command (.setLimit true) := by decide
theorem test_decode_setLimit_zero : decode 0x04000000#32 = .command (.setLimit false) := by decide
theorem test_decode_applyProfile : decode 0x05000000#32 = .command .applyProfile := by decide
theorem test_decode_sample : decode 0x06000000#32 = .command .sample := by decide
theorem test_decode_tick : decode 0x07000000#32 = .command .tick := by decide
theorem test_decode_drainExpiry : decode 0x08000000#32 = .command .drainExpiry := by decide
theorem test_decode_buildSetSpeed : decode 0x09000BB8#32 = .command (.buildSetSpeed 3000#16) := by decide

/-- Vector V9: words that are no command. -/
theorem test_decode_reserved :
    [0x00000000#32, 0x01000001#32, 0x03010000#32, 0x04000002#32, 0x0A000000#32, 0xFFFFFFFF#32].map decodeCommand =
    [none, none, none, none, none, none] := by decide

theorem test_decodeTableWord : decodeTableWord 32 0x03000001 = some (.applyMode 1#16) := by decide
theorem test_decodeTableWord_long : decodeTableWord 40 0x0103000001 = none := if_neg (by norm_num)

/-! ### The checks of rules R8 and R9, each with parameters it refuses -/

def paramsWith (f : Params → Params) : Params := f Config.device

theorem test_check_device : Config.device.valid = true := by decide
theorem test_check_fMin_zero : (paramsWith fun p => { p with fMin := 0#16 }).frequencyRangeOk = false := by decide
theorem test_check_fMin_above_fMax : (paramsWith fun p => { p with fMin := 151#16 }).frequencyRangeOk = false := by decide
theorem test_check_no_modes : (paramsWith fun p => { p with modes := [] }).modeTableOk = false := by decide
theorem test_check_too_many_modes (m : Mode) : (paramsWith fun p => { p with modes := List.replicate 65537 m }).modeTableOk = false := by
  simp only [paramsWith, Params.modeTableOk, List.length_replicate]
  norm_num
theorem test_check_settle_too_long : (paramsWith fun p => { p with tSettleNs := 1000000 }).settleOk = false := by decide
theorem test_invalid_refused :
    step { State.reset with params := paramsWith fun p => { p with fMin := 0#16 } } = .refused .invalidParameters := rfl
theorem test_instr_wellFormed : (Instr.applyMode 65535#16).wellFormed = true := by decide

/-! ### One command each: the pre-states and the rows of vector V37 -/

/-- The profile of vector V37: interlock enabled, no debounce, 100 Hz. -/
def profileX : Profile := ⟨true, 0#16, 100#16, 50#8, true, false⟩

/-- Pre-state A: `SAFE`. -/
def preA : State := { State.reset with
  profile := profileX, staged := profileX, limitEnabled := true, dbInit := true, nowMs := 16#32 }

/-- Pre-state B: `STANDBY`. -/
def preB : State := { preA with msmState := .standby, pinState := .drivenLow }

/-- Pre-state B1: `STANDBY`, input asserted. -/
def preB1 : State := { preB with inputLevel := true, lastRaw := true, pinIn := true, lastInputChangeMs := 16#32 }

/-- Pre-state C: `RUNNING`, armed. -/
def preC : State := { preA with
  msmState := .running, pinState := .activeWaveform, armed := true, outputLevel := true, waveformPhase := true,
  currentFrequencyHz := 100#16, activeModeIndex := 1#16, remainingMs := 30000#32, nextToggleMs := 20#32, indicatorHz := 2#16,
  tickArmed := true, tickNextMs := 1010#32, expiryArmed := true, expiryDeadlineMs := 30010#32,
  pinTrace := [.waveStop, .waveStart 100#16] }

/-- Pre-state C1: `RUNNING`, armed, input asserted. -/
def preC1 : State := { preC with inputLevel := true, lastRaw := true, pinIn := true, lastInputChangeMs := 16#32 }

/-- Pre-state D: `RUNNING`, blocked. -/
def preD : State := { preC1 with
  pinState := .drivenLow, armed := false, outputLevel := false, waveformPhase := false, currentFrequencyHz := 0#16,
  remainingMs := 0#32, tickArmed := false, expiryArmed := false }

/-- Vector V38 at 2010, after both lines fired. -/
def preV38 : State := { preC with
  activeModeIndex := 3#16, currentFrequencyHz := 66#16, outputLevel := false, waveformPhase := false, nowMs := 2010#32,
  nextToggleMs := 17#32, indicatorHz := 1#16, remainingMs := 0#32, timeoutExpired := true, expiryArmed := false,
  tickNextMs := 3010#32 }

def onChannel (s : State) : State := { s with params := { s.params with waveBackend := .channel } }

def toSafe (s : State) : State := { s with params := { s.params with onExpiryTarget := .safe } }

def nextOf : Host.Outcome State Fault Refusal → Option State
  | .next s => some s
  | .fault _ => none
  | .refused _ => none

/-- The columns of vector V37: `STATUS`, `CUR_FREQ`, `ACTIVE_MODE`, `REMAINING_MS`, `NEXT_TOGGLE_MS`, `IND_HZ`. -/
def columns (s : State) : List Word :=
  [.status, .curFreq, .activeMode, .remainingMs, .nextToggleMs, .indHz].map fun r => registerValue r s

def after (i : Instr) (s : State) : Option (List Word) := (nextOf (exec i s)).map columns

theorem test_preStates : [preA, preB, preB1, preC, preC1, preD, preV38].map statusWord =
    [0x1100#32, 0x1105#32, 0x3145#32, 0x1DBA#32, 0x3DFA#32, 0x3146#32, 0x171A#32] := by decide

theorem test_powerOn_C : after .powerOn preC = some [0x1105#32, 0#32, 1#32, 0#32, 20#32, 0#32] := by decide
theorem test_powerOn_A : after .powerOn preA = some [0x1105#32, 0#32, 0#32, 0#32, 0#32, 0#32] := by decide
theorem test_powerOff_C : after .powerOff preC = some [0x1100#32, 0#32, 1#32, 0#32, 20#32, 0#32] := by decide
/-- Vector V16c: the channel is stopped, its frequency kept, with the settling delay in the trace. -/
theorem test_powerOff_channel :
    (nextOf (exec .powerOff (onChannel { preC with
      chRunning := true, chFreqHz := 100#16, outputLevel := false, waveformPhase := false }))).map
      (fun t => (t.chRunning, t.chFreqHz, t.pinTrace)) = some (false, 100#16, [.waveStop, .waveStart 100#16, .waveStop, .settle, .setHiZ]) := by decide
theorem test_applyMode_C3 : after (.applyMode 3#16) preC = some [0x1D1A#32, 66#32, 3#32, 2000#32, 23#32, 1#32] := by decide
theorem test_applyMode_B1_2 : after (.applyMode 2#16) preB1 = some [0x3146#32, 0#32, 2#32, 0#32, 0#32, 4#32] := by decide
theorem test_setLimit_off_C : after (.setLimit false) preC = some [0x10BA#32, 100#32, 1#32, 0#32, 20#32, 2#32] := by decide
theorem test_setLimit_on_D : after (.setLimit true) { preD with limitEnabled := false } =
    some [0x3D46#32, 0#32, 1#32, 30000#32, 20#32, 2#32] := by decide
theorem test_applyProfile_C : after .applyProfile preC = some [0x1105#32, 0#32, 1#32, 0#32, 20#32, 0#32] := by decide
/-- Vector V18: the frequency is clamped when it is latched. -/
theorem test_applyProfile_clamps :
    (nextOf (exec .applyProfile { preA with staged := ⟨true, 20#16, 0xFFFF#16, 255#8, false, false⟩ })).map
      (fun t => [registerValue .actProf0 t, registerValue .actProf1 t, registerValue .prof1 t]) =
    some [0x0014FF01#32, 0x00000096#32, 0x0000FFFF#32] := by decide

/-- A filter with the 20 ms window of vectors V30 and V34. -/
def filterAt (now since : Word) (raw last : Bool) : State :=
  { preA with
    profile := { profileX with debounceMs := 20#16 }, nowMs := now, lastInputChangeMs := since, pinIn := raw, lastRaw := last }

/-- Vector V34: 19 ms across the wrap is not enough, 20 ms is. -/
theorem test_sample_wrap :
    [0x0000000B#32, 0x0000000C#32].map (fun now => (nextOf (exec .sample (filterAt now 0xFFFFFFF8#32 true true))).map (·.inputLevel)) =
    [some false, some true] := by decide
/-- Vector V31. -/
theorem test_sample_first : (nextOf (exec .sample { State.reset with nowMs := 3#32, pinIn := true })).map
    (fun t => (t.inputLevel, t.lastRaw, t.dbInit, t.lastInputChangeMs)) = some (true, true, true, 3#32) := by decide
theorem test_tick_trip : after .tick preC1 = some [0x3146#32, 0#32, 1#32, 0#32, 20#32, 2#32] := by decide
/-- Vector V20 at 20: the phase goes low on time. -/
theorem test_tick_flips : after .tick { preC with nowMs := 20#32 } = some [0x1D1A#32, 100#32, 1#32, 30000#32, 25#32, 2#32] := by decide
theorem test_drainExpiry_standby : after .drainExpiry preV38 = some [0x1105#32, 0#32, 3#32, 0#32, 17#32, 0#32] := by decide
theorem test_drainExpiry_safe : after .drainExpiry (toSafe preV38) = some [0x1100#32, 0#32, 3#32, 0#32, 17#32, 0#32] := by decide
/-- Vector V50. -/
theorem test_buildSetSpeed : (nextOf (exec (.buildSetSpeed 65535#16) State.reset)).map
    (fun t => (registerValue .frameLo t, registerValue .frameHi t)) = some (0x11940201#32, 0x00000058#32) := by decide

/-! ### The timer context and the register space -/

/-- Vector V43: the decrement saturates and the deadline wraps. -/
theorem test_tickFire : (let t := tickTurn { preC with remainingMs := 999#32, nowMs := 0xFFFFFFE8#32, tickNextMs := 0xFFFFFFE8#32 }
    (t.remainingMs, t.tickNextMs, t.timeoutExpired)) = (0#32, 0x000003D0#32, false) := by decide
/-- Vector V43a. -/
theorem test_expiryFire : (let t := expiryTurn { preC with nowMs := 2100#32, expiryDeadlineMs := 2100#32 }
    (t.timeoutExpired, t.expiryArmed, t.remainingMs, t.tickArmed)) = (true, false, 30000#32, true) := by decide
/-- Vector V18. -/
theorem test_prof0_reserved_bits : (nextOf (busWrite 32 0x08 0xFFFFFFFF#32 State.reset)).map (registerValue .prof0) =
    some 0xFFFFFF07#32 := by decide
/-- Vector V18: a misaligned or narrow access is no command. -/
theorem test_refused_access : [(32, 0x02), (8, 0x00), (16, 0x00), (32, 0x40)].map (fun a : Nat × Nat => accessed a.1 a.2) =
    [none, none, none, none] := by decide

/-! ### Witnesses: for every statement with hypotheses, states and operands that meet them, one for each clause -/

/-- The state with these steps pending. -/
def pending (es : List Event) (s : State) : State := { s with inbox := es }

/-- A state in which both lines are due. -/
def bothDue : State := { preC with nowMs := 2100#32, tickNextMs := 2100#32, expiryDeadlineMs := 2100#32 }

/-- A state in which only the tick line is due, one in which only the expiry line is. -/
def tickOnly : State := { preC with nowMs := 1010#32 }
def expiryOnly : State := { preC with nowMs := 30010#32 }

theorem inv_preA : BlockInv preA := by refine ⟨?_, ?_, ?_, ?_, ?_, ?_, ?_, ?_, ?_, ?_, ?_, ?_, ?_, ?_, ?_⟩ <;> decide
theorem inv_preB : BlockInv preB := by refine ⟨?_, ?_, ?_, ?_, ?_, ?_, ?_, ?_, ?_, ?_, ?_, ?_, ?_, ?_, ?_⟩ <;> decide
theorem inv_preB1 : BlockInv preB1 := by refine ⟨?_, ?_, ?_, ?_, ?_, ?_, ?_, ?_, ?_, ?_, ?_, ?_, ?_, ?_, ?_⟩ <;> decide
theorem inv_preC1 : BlockInv preC1 := by refine ⟨?_, ?_, ?_, ?_, ?_, ?_, ?_, ?_, ?_, ?_, ?_, ?_, ?_, ?_, ?_⟩ <;> decide
theorem inv_preC1_channel : BlockInv (onChannel { preC1 with
    outputLevel := false, waveformPhase := false, chRunning := true, chFreqHz := 100#16, chDuty := 50#8 }) := by
  refine ⟨?_, ?_, ?_, ?_, ?_, ?_, ?_, ?_, ?_, ?_, ?_, ?_, ?_, ?_, ?_⟩ <;> decide

theorem witness_CommandWordIsItsEncoding : decode 0x0900FFFF#32 = .command (.buildSetSpeed 65535#16) := by decide

theorem witness_DecodeFollowsOpcodeMap :
    (∀ r ∈ opcodeTable, 0x00000000#32 &&& r.mask ≠ r.pattern) ∧ decode 0x03000000#32 = .command (.applyMode 0#16) ∧
    decode 0x04000001#32 = .command (.setLimit true) ∧ decode 0x09000000#32 = .command (.buildSetSpeed 0#16) ∧
    decode 0x00000000#32 = .reserved .unassignedOpcode ∧ opcodeTable ≠ [] := by
  refine ⟨?_, by decide, by decide, by decide, by decide, ?_⟩ <;> simp [opcodeTable]

theorem witness_OperandsAreLowBits :
    [0x0300FFFF#32, 0x04000001#32, 0x04000002#32, 0x0900FFFF#32].map (fun v : Word => v.extractLsb' 16 8) = [0#8, 0#8, 0#8, 0#8] ∧
    [0x0300FFFF#32, 0x04000001#32, 0x04000002#32, 0x0900FFFF#32].map (fun v : Word => v.extractLsb' 24 8) = [3#8, 4#8, 4#8, 9#8] ∧
    [0x04000001#32, 0x04000002#32].map (fun v : Word => v.extractLsb' 1 15) = [0#15, 1#15] := by decide

theorem witness_StepRunsDecodedCommand :
    (pending [.regWrite 32 0x00 0x07000000#32] preC1).params.valid = true ∧ preC1.rst = false ∧
    (pending [.regWrite 32 0x00 0x07000000#32] preC1).inbox = [.regWrite 32 0x00 0x07000000#32] ∧
    decode 0x07000000#32 = .command .tick ∧ decode 0x0A000000#32 = .reserved .unassignedOpcode := by decide

theorem witness_FetchedWordRuns : State.reset.params.valid = true ∧ decodeTableWord 32 0x01000000 = some .powerOn := by decide

theorem witness_CommandReportsWhetherIgnored :
    decode 0x01000001#32 = .reserved .operandNotZero ∧ decode 0x01000000#32 = .command .powerOn ∧
    preB.params.modes.length ≤ (4#16 : Half).toNat ∧ preA.msmState = .safe ∧
    ¬ preB.params.modes.length ≤ (3#16 : Half).toNat ∧ preB.msmState ≠ .safe := by decide

theorem witness_EveryStepAnswersANextState : preC.params.valid = true := by decide

theorem witness_ParametersAreChecked :
    ({ preC with params := { preC.params with fMin := 151#16 } } : State).params.valid = false := by decide

theorem witness_PowerOnResult : BlockInv preB ∧ preB.msmState = .standby := ⟨inv_preB, by decide⟩
theorem witness_PowerOffResult : BlockInv preA ∧ preA.msmState = .safe := ⟨inv_preA, by decide⟩

theorem witness_ApplyModeIgnoredResult : preC.params.modes.length ≤ (4#16 : Half).toNat ∧ preA.msmState = .safe := by decide

theorem witness_ApplyModeZeroFrequencyResult :
    preB1.params.modes[(0#16 : Half).toNat]? = some ⟨0#16, 0#16, 0#16⟩ ∧ preB1.msmState ≠ .safe := by decide

theorem witness_ApplyModeBlockedResult :
    preB1.params.modes[(3#16 : Half).toNat]? = some ⟨50#16, 1#16, 2#16⟩ ∧ preB1.msmState ≠ .safe ∧ (50#16 : Half) ≠ 0#16 ∧
    preB1.profile.interlockEnabled = true ∧ preB1.inputLevel = true := by decide

theorem witness_ApplyModeWaveformResult :
    preC.params.modes[(3#16 : Half).toNat]? = some ⟨50#16, 1#16, 2#16⟩ ∧ preC.msmState ≠ .safe ∧ (50#16 : Half) ≠ 0#16 ∧
    preC.inputLevel = false ∧ preC.params.waveBackend = .polled ∧ (onChannel preC).params.waveBackend = .channel := by decide

theorem witness_SetLimitResult :
    preB.msmState ≠ .running ∧ preC.limitEnabled = true ∧ preC.msmState = .running ∧
    preD.params.modes[preD.activeModeIndex.toNat]? = some ⟨100#16, 2#16, 30#16⟩ ∧ preD.msmState = .running ∧
    ({ preD with limitEnabled := false } : State).limitEnabled = false := by decide

theorem witness_ApplyProfileResult : preA.msmState = .safe ∧ preC.msmState ≠ .safe := by decide

theorem witness_SampleResult :
    State.reset.dbInit = false ∧ preC.dbInit = true ∧ preC.pinIn = preC.lastRaw ∧
    (filterAt 5#32 0#32 true false).dbInit = true ∧ (filterAt 5#32 0#32 true false).pinIn ≠ (filterAt 5#32 0#32 true false).lastRaw := by
  decide

theorem witness_TickResult :
    (preC1.msmState = .running ∧ preC1.profile.interlockEnabled = true ∧ preC1.inputLevel = true ∧ preC1.armed = true) ∧
    (preD.msmState = .running ∧ preD.profile.interlockEnabled = true ∧ preD.inputLevel = true ∧ preD.armed = false) ∧
    (preC.inputLevel = false ∧ preC.msmState = .running ∧ preC.pinState = .activeWaveform ∧ preC.params.waveBackend = .polled ∧
      ¬ preC.nextToggleMs ≤ preC.nowMs ∧ (20#32 : Word) ≤ ({ preC with nowMs := 20#32 } : State).nowMs) ∧
    preB1.msmState ≠ .running ∧ (onChannel preC).params.waveBackend = .channel ∧ (onChannel preC).inputLevel = false := by decide

theorem witness_DrainExpiryResult :
    preC.timeoutExpired = false ∧ ({ preB with timeoutExpired := true } : State).msmState ≠ .running ∧
    preV38.timeoutExpired = true ∧ preV38.msmState = .running ∧ preV38.params.onExpiryTarget = .standby ∧
    (toSafe preV38).params.onExpiryTarget = .safe := by decide

theorem witness_TickLineFiring :
    (pending [.tickFire] tickOnly).params.valid = true ∧ tickOnly.rst = false ∧ (pending [.tickFire] tickOnly).inbox = [.tickFire] ∧
    tickOnly.tickArmed = true ∧ tickOnly.nowMs = tickOnly.tickNextMs := by decide

theorem witness_ExpiryLineFiring :
    (pending [.expiryFire] expiryOnly).params.valid = true ∧ expiryOnly.rst = false ∧
    (pending [.expiryFire] expiryOnly).inbox = [.expiryFire] ∧ expiryOnly.expiryArmed = true ∧
    expiryOnly.nowMs = expiryOnly.expiryDeadlineMs := by decide

theorem witness_LineNotDueDoesNotFire :
    (pending [.tickFire] preD).params.valid = true ∧ preD.rst = false ∧ (pending [.tickFire] preD).inbox = [.tickFire] ∧
    preD.tickArmed = false ∧ preC.nowMs ≠ preC.tickNextMs ∧ (pending [.expiryFire] preD).inbox = [.expiryFire] ∧
    preD.expiryArmed = false ∧ preC.nowMs ≠ preC.expiryDeadlineMs := by decide

theorem witness_TimePassesOnlyWhenNothingIsDue :
    (pending [.msPulse true] bothDue).params.valid = true ∧ bothDue.rst = false ∧
    (pending [.msPulse true] bothDue).inbox = [.msPulse true] ∧ lineDue bothDue = true ∧ lineDue preC = false := by decide

/-- The `AT` statement with both lines due, with one due, with time to run, and at its end; the bound at no time to run and at all of it. -/
theorem witness_AtRunsUntilItsTime :
    let at_ (s : State) (t : Word) (o : Bool) := pending (stepsOf (.runTo t o) ++ [.tickFire]) s
    (at_ bothDue 2100#32 true).params.valid = true ∧ bothDue.rst = false ∧
    (at_ bothDue 2100#32 false).inbox = [.runUntil 2100#32 false, .tickFire] ∧
    (bothDue.tickArmed = true ∧ bothDue.nowMs = bothDue.tickNextMs ∧ bothDue.expiryArmed = true ∧
      bothDue.nowMs = bothDue.expiryDeadlineMs) ∧
    (tickDue tickOnly = true ∧ expiryDue tickOnly = false) ∧ (tickDue expiryOnly = false ∧ expiryDue expiryOnly = true) ∧
    (tickDue preC = false ∧ expiryDue preC = false ∧ preC.nowMs ≠ 15#32 ∧ preC.nowMs = 16#32) ∧
    ((15#32 : Word) - preC.nowMs).toNat = 2 ^ 32 - 1 := by decide

theorem witness_RawInputIsSeenOnlyBySample :
    (pending [.pinIn true] preC).params.valid = true ∧ preC.rst = false ∧
    (pending [.pinIn true] preC).inbox = stepsOf (.pin true) ++ [] ∧ (pending [.channelMoves] preC).inbox = [.channelMoves] ∧
    ∃ t, step (pending [commandWrite .tick] preC) = .next t ∧
      (∀ l rest, (pending [commandWrite .tick] preC).inbox ≠ .pinIn l :: rest) ∧
      ∀ rest, (pending [commandWrite .tick] preC).inbox ≠ .regWrite 32 0x00 0x06000000#32 :: rest := by
  refine ⟨by decide, rfl, rfl, rfl, _, rfl, ?_, ?_⟩ <;> simp [pending, commandWrite, encode, offsetOf]

theorem witness_BothLinesInEitherOrder :
    bothDue.params.valid = true ∧ bothDue.rst = false ∧ tickDue bothDue = true ∧ expiryDue bothDue = true := by decide

theorem witness_TimerContextWritesOnlyScalars :
    (∃ t, step preC = .next t) ∧ preC.inbox = [] ∧ ∃ t, step (pending [.expiryFire] expiryOnly) = .next t :=
  ⟨⟨_, rfl⟩, rfl, ⟨_, rfl⟩⟩

theorem witness_ExpiryFlagSetAtDeadline :
    preC.params.valid = true ∧ preC.rst = false ∧ preC.inbox = [] ∧ preC.expiryArmed = true ∧ expiryLeft expiryOnly = 0 := by decide

theorem witness_TimeoutDrainedOnce : preV38.timeoutExpired = true ∧ preV38.msmState = .running := by decide

theorem witness_InvariantHeldAtReset : Config.device.valid = true := by decide

theorem witness_InvariantKeptByEveryStep :
    BlockInv (pending [commandWrite .tick] preC1) ∧ ∃ t, step (pending [commandWrite .tick] preC1) = .next t := by
  refine ⟨?_, _, rfl⟩
  refine ⟨?_, ?_, ?_, ?_, ?_, ?_, ?_, ?_, ?_, ?_, ?_, ?_, ?_, ?_, ?_⟩ <;> decide

theorem witness_StaircaseKeptByEveryStep :
    CountdownStaircase (pending [.tickFire] tickOnly) ∧ ∃ t, step (pending [.tickFire] tickOnly) = .next t := by
  refine ⟨by decide, _, rfl⟩

theorem witness_RepeatedCommandsAreIdempotent :
    (∃ t, exec (.applyMode 1#16) preB = .next t) ∧ ∃ t, exec (.setLimit true) { preD with limitEnabled := false } = .next t :=
  ⟨⟨_, rfl⟩, ⟨_, rfl⟩⟩

/-- The samples of vector V3, at 5 and 8 ms, and one at the last millisecond of the window. -/
theorem witness_DebounceHoldsWithinWindow :
    (filterAt 0#32 0#32 false false).dbInit = true ∧ (filterAt 0#32 0#32 false false).lastRaw = (filterAt 0#32 0#32 false false).inputLevel ∧
    ([(5, true), (8, false), (19, true)] : List (Nat × Bool)).Pairwise (fun a b => a.1 ≤ b.1) ∧
    ∀ p ∈ ([(5, true), (8, false), (19, true)] : List (Nat × Bool)), p.1 < (filterAt 0#32 0#32 false false).profile.debounceMs.toNat := by
  refine ⟨by decide, by decide, ?_, ?_⟩ <;> simp [filterAt, profileX]

theorem witness_InterlockDisarmsInOneTick :
    BlockInv preC1 ∧ preC1.profile.interlockEnabled = true ∧ preC1.inputLevel = true ∧
    BlockInv preB1 ∧ preB1.profile.interlockEnabled = true ∧ preB1.inputLevel = true :=
  ⟨inv_preC1, by decide, by decide, inv_preB1, by decide, by decide⟩

theorem witness_OnlyApplyModeArms :
    (nextOf (step (pending [commandWrite (.applyMode 1#16)] preB))).map (·.armed) = some true ∧ preB.armed = false := by decide

theorem witness_OnlyPowerOnLeavesSafe :
    (nextOf (step (pending [commandWrite .powerOn] preA))).map (fun t => (t.msmState, padOe t)) = some (.standby, true) ∧
    preA.msmState = .safe ∧ padOe preA = false := by decide

theorem witness_CommandsWriteOnlyTheirElements : ∃ t, exec (.applyMode 3#16) preC = .next t := ⟨_, rfl⟩
theorem witness_TransitionTable : (∃ t, exec .tick preC1 = .next t) ∧ ∃ t, exec .drainExpiry preV38 = .next t := ⟨⟨_, rfl⟩, ⟨_, rfl⟩⟩

theorem witness_StartsFollowStops :
    (nextOf (exec (.applyMode 3#16) preC)).map (·.pinTrace) =
    some [.waveStop, .waveStart 100#16, .waveStop, .waveStart 66#16] := by decide

theorem witness_TimeoutAndTripOrders :
    let s : State := { preV38 with inputLevel := true }
    s.msmState = .running ∧ s.armed = true ∧ s.timeoutExpired = true ∧ s.profile.interlockEnabled = true ∧ s.inputLevel = true := by decide

theorem witness_PollIsSampleDrainTick :
    preV38.params.valid = true ∧ preV38.rst = false ∧ preV38.msmState = .running ∧ preV38.timeoutExpired = true ∧
    preC1.profile.interlockEnabled = true ∧ (nextOf (exec .sample preC1)).map (·.inputLevel) = some true := by decide

theorem witness_PolledWaveHasItsPeriod :
    preB.params.valid = true ∧ preB.params.waveBackend = .polled ∧
    (nextOf (exec (.applyMode 3#16) preB)).map (fun t => (t.cmdIgnored, t.armed)) = some (false, true) ∧
    halfPeriod preB.params (modeAt preB.params 3#16).frequencyHz = 7 ∧ preB.nowMs.toNat + 21 + 7 < 2 ^ 32 := by decide

theorem witness_RegisterReadWritesNothing :
    (pending [.regRead 32 0x3C] preC).params.valid = true ∧ preC.rst = false ∧
    (pending [.regRead 32 0x3C] preC).inbox = [.regRead 32 (offsetOf .reserved)] := by decide

theorem witness_RefusedAccessHasNoEffect :
    (pending [.regRead 8 0x04] preC).params.valid = true ∧ preC.rst = false ∧ ((8 : Nat) ≠ 32) ∧ (0x3E % 4 ≠ 0) ∧ (0x40 ≤ 0x40) ∧
    (pending [.regRead 8 0x04] preC).inbox = [.regRead 8 0x04] ∧
    (pending [.regWrite 32 0x40 0#32] preC).inbox = [.regWrite 32 0x40 0#32] := by decide

theorem witness_ProfileRegistersStoreAndLatch :
    (pending [.regWrite 32 0x08 0xFFFFFFFF#32] preC).params.valid = true ∧ preC.rst = false ∧
    (pending [.regWrite 32 0x08 0xFFFFFFFF#32] preC).inbox = [.regWrite 32 0x08 0xFFFFFFFF#32] ∧
    (pending [.regWrite 32 0x0C 0#32] preC).inbox = [.regWrite 32 0x0C 0#32] := by decide

theorem witness_ReadOnlyRegistersIgnoreWrites :
    (pending [.regWrite 32 0x1C 5#32] preC).params.valid = true ∧ preC.rst = false ∧
    (pending [.regWrite 32 0x1C 5#32] preC).inbox = [.regWrite 32 (offsetOf .nowMs) 5#32] ∧ Reg.nowMs ∉ [.cmd, .prof0, .prof1] := by
  decide

theorem witness_ClampFreqIsNearestBound : Config.device.valid = true := by decide
theorem witness_HalfPeriodTable : Config.device.fMin = 66#16 ∧ Config.device.fMax = 150#16 := by decide

theorem witness_ChecksumClosesFrame :
    ((0x01#8 : Byte).toNat + (0x02#8 : Byte).toNat + (0xFD#8 : Byte).toNat + (0x00#8 : Byte).toNat) % 256 = 0 := by decide

theorem witness_AssertedResetHoldsTheBlock :
    let held : State := { preC with rst := true }
    preC.params.valid = true ∧ preC.rst = false ∧ (pending [.rst true] preC).inbox = [.rst true] ∧ held.rst = true ∧
    (pending [.rst false] held).inbox = [.rst false] ∧ Event.tickFire ≠ .rst false ∧ held.inbox = [] := by decide

theorem witness_PadFollowsPinState :
    preA.pinState = .hiZ ∧ preB.pinState = .drivenLow ∧ preC.pinState = .activeWaveform ∧ preC.params.waveBackend = .polled ∧
    preC.profile.activeHigh = true ∧ ({ preC with profile := { profileX with activeHigh := false } } : State).profile.activeHigh = false ∧
    (onChannel preC).params.waveBackend = .channel := by decide

end SliceTests
end

