-- ==== Sys2Proof/Proofs/Scope.lean ====
section
/-! The arithmetic of `00_scope.md` (rules R13 to R18) and the check of the parameters (rules R8 and R9). -/
namespace Sys2Proof
namespace Machine

/-! ### The check of the parameters -/

theorem frequencyRangeOk_iff (p : Params) :
    p.frequencyRangeOk = true ↔ 1 ≤ p.fMin.toNat ∧ p.fMin.toNat ≤ p.fMax.toNat := by
  rw [Params.frequencyRangeOk, Bool.and_eq_true, decide_eq_true_iff, decide_eq_true_iff]

theorem modeTableOk_iff (p : Params) :
    p.modeTableOk = true ↔ 1 ≤ p.modes.length ∧ p.modes.length ≤ 65536 := by
  rw [Params.modeTableOk, Bool.and_eq_true, decide_eq_true_iff, decide_eq_true_iff]

theorem settleOk_iff (p : Params) : p.settleOk = true ↔ p.tSettleNs < 1000000 := by
  rw [Params.settleOk, decide_eq_true_iff]

theorem params_valid_iff (p : Params) :
    p.valid = true ↔ p.frequencyRangeOk = true ∧ p.modeTableOk = true ∧ p.settleOk = true := by
  rw [Params.valid, Bool.and_eq_true, Bool.and_eq_true, and_assoc]

theorem fMin_le_fMax_of_valid {p : Params} (h : p.valid = true) : p.fMin.toNat ≤ p.fMax.toNat := by
  obtain ⟨hrange, -, -⟩ := (params_valid_iff p).1 h
  exact ((frequencyRangeOk_iff p).1 hrange).2

theorem step_of_invalid {s : State} (h : s.params.valid = false) : step s = .refused .invalidParameters := by
  simp [step, h]

/-- Settles O11: the upper bounds of `F_MAX` and `RPM_MAX` are the widths of their fields, the others are what is checked. -/
theorem parametersAreChecked : Obligations.ParametersAreChecked := by
  refine ⟨fun p => ?_, fun s h => step_of_invalid h⟩
  have hfMax : p.fMax.toNat < 65536 := p.fMax.isLt
  have hrpmMax : p.rpmMax.toNat < 65536 := p.rpmMax.isLt
  rw [params_valid_iff, frequencyRangeOk_iff, modeTableOk_iff, settleOk_iff]
  omega

/-! ### The clamp and the half-period -/

/-- Rule R13: a clamped frequency is inside the range, so clamping it again changes nothing. -/
theorem clampFreq_clampFreq {p : Params} (h : p.fMin.toNat ≤ p.fMax.toNat) (f : Half) :
    clampFreq p (clampFreq p f) = clampFreq p f := by
  apply BitVec.eq_of_toNat_eq
  rw [clampFreq_toNat p (clampFreq p f) h, clampFreq_toNat p f h]
  omega

theorem clampFreq_zero {p : Params} (h : p.fMin.toNat ≤ p.fMax.toNat) : clampFreq p 0#16 = p.fMin := by
  apply BitVec.eq_of_toNat_eq
  rw [clampFreq_toNat p 0#16 h, BitVec.toNat_ofNat]
  omega

/-- Settles O52: an admissible range is not empty, and there the clamp is `max F_MIN (min F_MAX f)`. -/
theorem clampFreqIsNearestBound : Obligations.ClampFreqIsNearestBound := by
  intro p f hvalid
  have hrange := fMin_le_fMax_of_valid hvalid
  exact ⟨clampFreq_toNat p f hrange, clampFreq_clampFreq hrange f, clampFreq_zero hrange⟩

theorem halfPeriod_eq_max (p : Params) (f : Half) : halfPeriod p f = max 1 (500 / (clampFreq p f).toNat) := rfl

/-- A row of the table of rule R14: the half-period is `q` when the clamped frequency goes `q` times into 500. -/
theorem halfPeriod_eq_of_quotient {p : Params} {f : Half} {c q : Nat} (hclamp : (clampFreq p f).toNat = c) (hpos : 1 ≤ q)
    (hlow : q * c ≤ 500) (hhigh : 500 < (q + 1) * c) : halfPeriod p f = q := by
  rw [halfPeriod_eq_max, hclamp, Nat.div_eq_of_lt_le hlow hhigh]
  exact Nat.max_eq_right hpos

/-- Settles O53: each row of the table is one quotient, and in it the clamped frequency stays between the row's bounds. -/
theorem halfPeriodTable : Obligations.HalfPeriodTable := by
  refine ⟨fun p f => ⟨halfPeriod_eq_max p f, halfPeriod_pos p f⟩, fun p f hmin hmax => ?_⟩
  have hclamp : (clampFreq p f).toNat = max 66 (min 150 f.toNat) := by
    simpa [hmin, hmax] using clampFreq_toNat p f (by simp [hmin, hmax])
  split_ifs <;> exact halfPeriod_eq_of_quotient hclamp (by omega) (by omega) (by omega)

/-! ### The checksum -/

/-- Rule R17 in remainders: the two masks are remainders modulo 256. -/
theorem checksum_toNat (id cmd lsb msb : Byte) : (checksum id cmd lsb msb).toNat =
    (256 - (id.toNat + cmd.toNat + lsb.toNat + msb.toNat) % 256) % 256 := by
  have hmask (n : Nat) : n &&& 0xFF = n % 256 := Nat.and_two_pow_sub_one_eq_mod n 8
  rw [checksum, hmask, hmask, BitVec.toNat_ofNat]
  exact Nat.mod_mod _ _

/-- Settles O54: the checksum is the four bytes' sum taken from 256, and a masked sum of 0 leaves 256, which is masked to 0. -/
theorem checksumClosesFrame : Obligations.ChecksumClosesFrame := by
  intro id cmd lsb msb
  have hsum := checksum_toNat id cmd lsb msb
  refine ⟨by omega, fun hzero => ?_⟩
  apply BitVec.eq_of_toNat_eq
  rw [hsum, hzero]
  rfl

/-! ### Durations and speeds -/

/-- Rule R16: the product is at most `65535 * 1000`, so it does not wrap. -/
theorem durationMs_toNat (m : Mode) : (durationMs m).toNat = m.defaultTimeoutSeconds.toNat * 1000 := by
  have hsmall := m.defaultTimeoutSeconds.isLt
  rw [durationMs_eq, BitVec.toNat_ofNat, Nat.mod_eq_of_lt (by omega)]

theorem payloadLsb_eq (r : Half) : payloadLsb r = BitVec.ofNat 8 r.toNat := rfl

theorem payloadMsb_eq (r : Half) : payloadMsb r = BitVec.ofNat 8 (r.toNat / 256) := by
  rw [payloadMsb, BitVec.extractLsb', Nat.shiftRight_eq_div_pow]

/-- Rule R18: the payload holds the whole speed, the most significant byte above the least significant one. -/
theorem payloadMsb_append_payloadLsb (r : Half) : (payloadMsb r ++ payloadLsb r : BitVec 16) = r := by
  calc payloadMsb r ++ payloadLsb r
      = r.extractLsb' 0 16 := BitVec.extractLsb'_append_extractLsb'_eq_extractLsb' (w := 16) rfl
    _ = r := BitVec.extractLsb'_eq_self

/-- Settles O55: durations, the decrement, the clamp of a speed and its split into the two payload bytes. -/
theorem countdownAndSpeedArithmetic : Obligations.CountdownAndSpeedArithmetic :=
  ⟨durationMs_toNat, satSub1000_toNat, fun p r =>
    ⟨clampRpm_toNat p r, payloadLsb_eq r, payloadMsb_eq r, payloadMsb_append_payloadLsb r⟩⟩

end Machine
end Sys2Proof
end

/-! The state of the block (`10_state.md`). First two inversion lemmas, what a command and what a step can do; from them the invariants of
rule R49, the writer sets of rule R53 and the raw input of rule R267. Between them reset and the pad (rules R52 and R47). -/
namespace Sys2Proof
namespace Machine

/-! ### What a command can do -/

/-- The one way into `STANDBY` without a mode: `POWER_ON`, `APPLY_PROFILE` outside `SAFE`, and a timeout (rules R185, R194, R198). -/
def enterStandby (s : State) : State :=
  cancelCountdown { disarm (toDrivenLow s) with indicatorHz := 0#16, msmState := .standby }

/-- The one way into `SAFE`: `POWER_OFF` and a timeout (rules R192 and R198). -/
def enterSafe (s : State) : State :=
  cancelCountdown { disarm (toHighImpedance s) with indicatorHz := 0#16, msmState := .safe }

/-- The end of an accepted `APPLY_MODE idx`: the indicator and the countdown, after its output side left `s` (rule R187). -/
def finishMode (idx : Half) (s : State) : State :=
  startOrRestartCountdown { s with indicatorHz := (modeAt s.params idx).indicatorBlinkHz }

/-- Every case of a command with its guard and the state it leaves (rules R162 and R185 to R196, R251). -/
inductive CommandCase (s : State) : Instr → State → Prop where
  | powerOn : CommandCase s .powerOn (executed (enterStandby s))
  | powerOff : CommandCase s .powerOff (executed (enterSafe s))
  | applyModeIgnored (idx : Half) (hig : modeExists s.params idx = false ∨ s.msmState = .safe) :
      CommandCase s (.applyMode idx) (ignoreCommand s)
  | applyModeNoWave (idx : Half) (hidx : modeExists s.params idx = true) (hsafe : s.msmState ≠ .safe)
      (hfreq : (modeAt s.params idx).frequencyHz = 0#16) :
      CommandCase s (.applyMode idx) (executed (finishMode idx (selectNoWaveform { s with activeModeIndex := idx })))
  | applyModeBlocked (idx : Half) (hidx : modeExists s.params idx = true) (hsafe : s.msmState ≠ .safe)
      (hfreq : (modeAt s.params idx).frequencyHz ≠ 0#16) (hblocked : blocked s = true) :
      CommandCase s (.applyMode idx) (executed (finishMode idx (selectBlocked { s with activeModeIndex := idx })))
  | applyModeWave (idx : Half) (hidx : modeExists s.params idx = true) (hsafe : s.msmState ≠ .safe)
      (hfreq : (modeAt s.params idx).frequencyHz ≠ 0#16) (hblocked : blocked s = false) :
      CommandCase s (.applyMode idx)
        (executed (finishMode idx (selectWaveform (modeAt s.params idx).frequencyHz { s with activeModeIndex := idx })))
  | setLimitStored (b : Bool) (hkeep : s.msmState ≠ .running ∨ s.limitEnabled = b) :
      CommandCase s (.setLimit b) (executed { s with limitEnabled := b })
  | setLimitCancelled (hrun : s.msmState = .running) (hset : s.limitEnabled = true) :
      CommandCase s (.setLimit false) (executed (cancelCountdown { s with limitEnabled := false }))
  | setLimitRestarted (hrun : s.msmState = .running) (hclear : s.limitEnabled = false) :
      CommandCase s (.setLimit true) (executed (startOrRestartCountdown { s with limitEnabled := true }))
  | applyProfileSafe (hsafe : s.msmState = .safe) :
      CommandCase s .applyProfile (executed (toHighImpedance { s with profile := latchedProfile s.params s.staged }))
  | applyProfileStandby (hsafe : s.msmState ≠ .safe) :
      CommandCase s .applyProfile (executed (enterStandby { s with profile := latchedProfile s.params s.staged }))
  | sampleFirst (hinit : s.dbInit = false) : CommandCase s .sample (executed (firstSample s))
  | sampleNext (hinit : s.dbInit = true) : CommandCase s .sample (executed (adoptStableLevel (recordRawChange s)))
  | tickTrip (hblocked : blocked s = true) (hrun : s.msmState = .running) (harmed : s.armed = true) :
      CommandCase s .tick (executed (cancelCountdown (tripOutput s)))
  | tickTripped (hblocked : blocked s = true) (hrun : s.msmState = .running) (harmed : s.armed = false) :
      CommandCase s .tick (executed (cancelCountdown s))
  | tickWave (hblocked : blocked s = false) (hrun : s.msmState = .running) (hpin : s.pinState = .activeWaveform)
      (hbackend : s.params.waveBackend = .polled) : CommandCase s .tick (executed (genTick s))
  | tickIdle (hidle : s.msmState ≠ .running ∨
      blocked s = false ∧ ¬ (s.pinState = .activeWaveform ∧ s.params.waveBackend = .polled)) :
      CommandCase s .tick (executed s)
  | drainClear (hflag : s.timeoutExpired = false) : CommandCase s .drainExpiry (executed s)
  | drainFlagOnly (hflag : s.timeoutExpired = true) (hrun : s.msmState ≠ .running) :
      CommandCase s .drainExpiry (executed { s with timeoutExpired := false })
  | drainToStandby (hflag : s.timeoutExpired = true) (hrun : s.msmState = .running)
      (htarget : s.params.onExpiryTarget = .standby) : CommandCase s .drainExpiry (executed (enterStandby s))
  | drainToSafe (hflag : s.timeoutExpired = true) (hrun : s.msmState = .running)
      (htarget : s.params.onExpiryTarget = .safe) : CommandCase s .drainExpiry (executed (enterSafe s))
  | buildSetSpeed (rpm : Half) : CommandCase s (.buildSetSpeed rpm) (executed { s with frameBuf := setSpeedFrame s.params rpm })

theorem timeoutTransition_to_standby {s : State} (h : s.params.onExpiryTarget = .standby) :
    timeoutTransition { s with timeoutExpired := false } = enterStandby s := by
  simp only [timeoutTransition, h]; rfl

theorem timeoutTransition_to_safe {s : State} (h : s.params.onExpiryTarget = .safe) :
    timeoutTransition { s with timeoutExpired := false } = enterSafe s := by
  simp only [timeoutTransition, h]; rfl

theorem selectMode_noWave {s : State} {idx : Half} (hfreq : (modeAt s.params idx).frequencyHz = 0#16) :
    selectMode idx s = executed (finishMode idx (selectNoWaveform { s with activeModeIndex := idx })) := by
  simp only [selectMode, if_pos hfreq]; rfl

theorem selectMode_blocked {s : State} {idx : Half} (hfreq : (modeAt s.params idx).frequencyHz ≠ 0#16) (hblocked : blocked s = true) :
    selectMode idx s = executed (finishMode idx (selectBlocked { s with activeModeIndex := idx })) := by
  have hb : blocked { s with activeModeIndex := idx } = true := hblocked
  simp only [selectMode, if_neg hfreq, if_pos hb]; rfl

theorem selectMode_wave {s : State} {idx : Half} (hfreq : (modeAt s.params idx).frequencyHz ≠ 0#16) (hblocked : blocked s = false) :
    selectMode idx s =
      executed (finishMode idx (selectWaveform (modeAt s.params idx).frequencyHz { s with activeModeIndex := idx })) := by
  have hb : ¬ blocked { s with activeModeIndex := idx } = true := ne_true_of_eq_false hblocked
  simp only [selectMode, if_neg hfreq, if_neg hb, finishMode, selectWaveform, toActiveWaveform_params]

/-- Each case is what `exec` computes under its guard. -/
theorem CommandCase.exec_eq {s t : State} {i : Instr} (h : CommandCase s i t) : exec i s = .next t := by
  cases h with
  | powerOn => rfl
  | powerOff => rfl
  | applyModeIgnored idx hig => simp only [exec, execApplyMode, if_pos hig]
  | applyModeNoWave idx hidx hsafe hfreq => simp [exec, execApplyMode, hidx, hsafe, selectMode_noWave hfreq]
  | applyModeBlocked idx hidx hsafe hfreq hblocked =>
    simp [exec, execApplyMode, hidx, hsafe, selectMode_blocked hfreq hblocked]
  | applyModeWave idx hidx hsafe hfreq hblocked =>
    simp [exec, execApplyMode, hidx, hsafe, selectMode_wave hfreq hblocked]
  | setLimitStored b hkeep =>
    simp only [exec, execSetLimit]
    obtain hrun | hsame := hkeep
    · rw [if_neg hrun]
    · cases b <;> simp [hsame]
  | setLimitCancelled hrun hset => simp [exec, execSetLimit, hrun, hset]
  | setLimitRestarted hrun hclear => simp [exec, execSetLimit, hrun, hclear]
  | applyProfileSafe hsafe => simp only [exec, execApplyProfile, if_pos hsafe]
  | applyProfileStandby hsafe => simp only [exec, execApplyProfile, if_neg hsafe]; rfl
  | sampleFirst hinit => simp only [exec, execSample, if_pos hinit]
  | sampleNext hinit => simp [exec, execSample, hinit]
  | tickTrip hblocked hrun harmed => simp [exec, execTick, hblocked, hrun, interlockTrip, harmed]
  | tickTripped hblocked hrun harmed => simp [exec, execTick, hblocked, hrun, interlockTrip, harmed]
  | tickWave hblocked hrun hpin hbackend => simp [exec, execTick, hblocked, hrun, hpin, hbackend]
  | tickIdle hidle =>
    simp only [exec, execTick]
    obtain hrun | ⟨hblocked, hwave⟩ := hidle
    · rw [if_neg (fun h => hrun h.2), if_neg (fun h => hrun h.1)]
    · rw [if_neg (by simp [hblocked]), if_neg (fun h => hwave h.2)]
  | drainClear hflag => simp [exec, execDrainExpiry, hflag]
  | drainFlagOnly hflag hrun => simp only [exec, execDrainExpiry, if_pos hflag, if_neg hrun]
  | drainToStandby hflag hrun htarget =>
    simp only [exec, execDrainExpiry, if_pos hflag, if_pos hrun, timeoutTransition_to_standby htarget]
  | drainToSafe hflag hrun htarget =>
    simp only [exec, execDrainExpiry, if_pos hflag, if_pos hrun, timeoutTransition_to_safe htarget]
  | buildSetSpeed rpm => rfl

/-- The guards leave no state out. -/
theorem exists_commandCase (i : Instr) (s : State) : ∃ t, CommandCase s i t := by
  cases i with
  | powerOn => exact ⟨_, .powerOn⟩
  | powerOff => exact ⟨_, .powerOff⟩
  | applyMode idx =>
    by_cases hig : modeExists s.params idx = false ∨ s.msmState = .safe
    · exact ⟨_, .applyModeIgnored idx hig⟩
    rw [not_or, Bool.not_eq_false] at hig
    obtain ⟨hidx, hsafe⟩ := hig
    by_cases hfreq : (modeAt s.params idx).frequencyHz = 0#16
    · exact ⟨_, .applyModeNoWave idx hidx hsafe hfreq⟩
    cases hblocked : blocked s with
    | true => exact ⟨_, .applyModeBlocked idx hidx hsafe hfreq hblocked⟩
    | false => exact ⟨_, .applyModeWave idx hidx hsafe hfreq hblocked⟩
  | setLimit b =>
    by_cases hkeep : s.msmState ≠ .running ∨ s.limitEnabled = b
    · exact ⟨_, .setLimitStored b hkeep⟩
    rw [not_or, not_not] at hkeep
    obtain ⟨hrun, hchange⟩ := hkeep
    cases b with
    | false => exact ⟨_, .setLimitCancelled hrun (by simpa using hchange)⟩
    | true => exact ⟨_, .setLimitRestarted hrun (by simpa using hchange)⟩
  | applyProfile =>
    by_cases hsafe : s.msmState = .safe
    · exact ⟨_, .applyProfileSafe hsafe⟩
    · exact ⟨_, .applyProfileStandby hsafe⟩
  | sample =>
    cases hinit : s.dbInit with
    | false => exact ⟨_, .sampleFirst hinit⟩
    | true => exact ⟨_, .sampleNext hinit⟩
  | tick =>
    by_cases hrun : s.msmState = .running
    · cases hblocked : blocked s with
      | true =>
        cases harmed : s.armed with
        | true => exact ⟨_, .tickTrip hblocked hrun harmed⟩
        | false => exact ⟨_, .tickTripped hblocked hrun harmed⟩
      | false =>
        by_cases hwave : s.pinState = .activeWaveform ∧ s.params.waveBackend = .polled
        · exact ⟨_, .tickWave hblocked hrun hwave.1 hwave.2⟩
        · exact ⟨_, .tickIdle (.inr ⟨hblocked, hwave⟩)⟩
    · exact ⟨_, .tickIdle (.inl hrun)⟩
  | drainExpiry =>
    cases hflag : s.timeoutExpired with
    | false => exact ⟨_, .drainClear hflag⟩
    | true =>
      by_cases hrun : s.msmState = .running
      · cases htarget : s.params.onExpiryTarget with
        | standby => exact ⟨_, .drainToStandby hflag hrun htarget⟩
        | safe => exact ⟨_, .drainToSafe hflag hrun htarget⟩
      · exact ⟨_, .drainFlagOnly hflag hrun⟩
  | buildSetSpeed rpm => exact ⟨_, .buildSetSpeed rpm⟩

/-- What a command can do, said once: the cases are exactly the runs of `exec`. -/
theorem exec_eq_next_iff {i : Instr} {s t : State} : exec i s = .next t ↔ CommandCase s i t := by
  refine ⟨fun h => ?_, CommandCase.exec_eq⟩
  obtain ⟨u, hu⟩ := exists_commandCase i s
  rw [hu.exec_eq, Host.Outcome.next.injEq] at h
  exact h ▸ hu

/-! ### What a step can do -/

/-- Every kind of step (rules R12, R53, R290): a command, the assertion of `rst`, the firing of a due line, or a step that writes none of
the elements but the staged profile, the report and `now_ms`. -/
inductive StepKind (s t : State) : Prop where
  | command (v : Word) (rest : List Event) (i : Instr) (hinbox : s.inbox = .regWrite 32 0x00 v :: rest)
      (hdecode : decode v = .command i) (hcase : CommandCase (consumed rest s) i t)
  | reset (rest : List Event) (ht : t = assertReset (consumed rest s))
  | tickFires (hdue : tickDue s = true) (ht : t = { tickFire s with inbox := t.inbox, draws := t.draws })
  | expiryFires (hdue : expiryDue s = true) (ht : t = { expiryFire s with inbox := t.inbox, draws := t.draws })
  | quiet (ht : t = { s with
      rst := t.rst, pinIn := t.pinIn, inbox := t.inbox, readData := t.readData, draws := t.draws,
      staged := t.staged, nowMs := t.nowMs, cmdIgnored := t.cmdIgnored })

/-- Whatever stays pending after it, a round of the timer context fires a due line or advances time. -/
theorem stepKind_timePasses (rest pending : List Event) (tickFirst : Bool) (s : State) :
    StepKind s { timePasses tickFirst (consumed rest s) with inbox := pending } := by
  obtain ⟨hdue, ht⟩ | ⟨hdue, ht⟩ | ⟨-, -, ht⟩ := timePasses_cases tickFirst (consumed rest s)
  · exact .tickFires hdue (by rw [ht]; rfl)
  · exact .expiryFires hdue (by rw [ht]; rfl)
  · exact .quiet (by rw [ht]; rfl)

theorem stepKind_pulse (rest : List Event) (tickFirst : Bool) (s : State) : StepKind s (pulse tickFirst (consumed rest s)) := by
  rw [pulse]
  split_ifs with hdue
  · obtain ⟨htick, ht⟩ | ⟨hexpiry, ht⟩ := fireDueLine_cases tickFirst hdue
    · exact .tickFires htick (by rw [ht]; rfl)
    · exact .expiryFires hexpiry (by rw [ht]; rfl)
  · exact .quiet rfl

theorem stepKind_untilTime (rest : List Event) (u : Word) (tickFirst : Bool) (s : State) :
    StepKind s (untilTime u tickFirst (consumed rest s)) := by
  obtain ⟨-, -, ht⟩ | ⟨-, ht⟩ := untilTime_cases u tickFirst (consumed rest s)
  · exact .quiet (by rw [ht]; rfl)
  · rw [ht]; exact stepKind_timePasses rest _ tickFirst s

theorem stepKind_tickTurn (rest : List Event) (s : State) : StepKind s (tickTurn (consumed rest s)) := by
  rw [tickTurn]
  split_ifs with hdue
  · exact .tickFires hdue rfl
  · exact .quiet rfl

theorem stepKind_expiryTurn (rest : List Event) (s : State) : StepKind s (expiryTurn (consumed rest s)) := by
  rw [expiryTurn]
  split_ifs with hdue
  · exact .expiryFires hdue rfl
  · exact .quiet rfl

theorem stepKind_busWrite {s t : State} {rest : List Event} {bits off : Nat} {v : Word}
    (hinbox : s.inbox = .regWrite bits off v :: rest) (h : busWrite bits off v (consumed rest s) = .next t) : StepKind s t := by
  obtain ⟨rfl, rfl, hrun⟩ | rfl | rfl | rfl := busWrite_cases h
  · obtain ⟨i, hdecode, hexec⟩ | ⟨-, rfl⟩ := runCommandWord_cases hrun
    · exact .command v rest i hinbox hdecode (exec_eq_next_iff.1 hexec)
    · exact .quiet rfl
  · exact .quiet rfl
  · exact .quiet rfl
  · exact .quiet rfl

theorem stepKind_takeEvent {s t : State} {e : Event} {rest : List Event} (hinbox : s.inbox = e :: rest)
    (h : takeEvent e (consumed rest s) = .next t) : StepKind s t := by
  cases e with
  | regWrite bits off v => exact stepKind_busWrite hinbox h
  | regRead bits off => obtain rfl := Host.Outcome.next.inj h; exact .quiet rfl
  | tickFire => obtain rfl := Host.Outcome.next.inj h; exact stepKind_tickTurn rest s
  | expiryFire => obtain rfl := Host.Outcome.next.inj h; exact stepKind_expiryTurn rest s
  | msPulse tickFirst => obtain rfl := Host.Outcome.next.inj h; exact stepKind_pulse rest tickFirst s
  | runUntil u tickFirst => obtain rfl := Host.Outcome.next.inj h; exact stepKind_untilTime rest u tickFirst s
  | pinIn level => obtain rfl := Host.Outcome.next.inj h; exact .quiet rfl
  | channelMoves => obtain rfl := Host.Outcome.next.inj h; exact .quiet rfl
  | rst asserted =>
    obtain rfl := Host.Outcome.next.inj h
    cases asserted with
    | true => exact .reset rest rfl
    | false => exact .quiet rfl

/-- What a step can do, said once. -/
theorem stepKind_of_step {s t : State} (h : step s = .next t) : StepKind s t := by
  obtain ⟨-, -, rfl⟩ | ⟨-, -, rfl⟩ | ⟨e, rest, -, -, rfl⟩ | ⟨e, rest, hinbox, -, htake⟩ := step_cases h
  · exact .quiet rfl
  · exact stepKind_timePasses s.inbox _ _ s
  · exact .quiet (by cases e <;> rfl)
  · exact stepKind_takeEvent hinbox htake

/-! ### Reset and the pad -/

/-- Settles O56: each element of `State.resetFor` is the table's value or the drawn one. -/
theorem resetValues : Obligations.ResetValues := by
  intro p u
  and_intros <;> rfl

theorem padOe_iff (s : State) : padOe s = true ↔ s.pinState ≠ .hiZ := by
  rw [padOe, decide_eq_true_iff]

theorem padOut_hiZ {s : State} (h : s.pinState = .hiZ) : padOut s = none := by
  rw [padOut, h]

theorem padOut_drivenLow {s : State} (h : s.pinState = .drivenLow) : padOut s = some false := by
  rw [padOut, h]

theorem padOut_polled {s : State} (h : s.pinState = .activeWaveform) (hb : s.params.waveBackend = .polled) :
    padOut s = some (if s.profile.activeHigh then s.outputLevel else !s.outputLevel) := by
  simp only [padOut, h, hb]

theorem padOut_channel {s : State} (h : s.pinState = .activeWaveform) (hb : s.params.waveBackend = .channel) :
    padOut s = some (Config.channelLevel s.draws) := by
  simp only [padOut, h, hb]

/-- Settles O58, by the pin state, the backend and the polarity. -/
theorem padFollowsPinState : Obligations.PadFollowsPinState := by
  intro s
  refine ⟨padOe_iff s, padOut_hiZ, padOut_drivenLow, fun hpin hbackend hhigh => ?_, fun hpin hbackend hlow => ?_,
    fun hpin hbackend => ⟨_, padOut_channel hpin hbackend⟩, rfl⟩
  · rw [padOut_polled hpin hbackend, if_pos hhigh]
  · rw [padOut_polled hpin hbackend, if_neg (ne_true_of_eq_false hlow)]

/-! ### The invariants as four columns

The twelve items of rule R49 together say that the block is in one of the four columns of rule R181: `SAFE`, `STANDBY`, `RUNNING` blocked,
`RUNNING` armed. In that form each operation that takes the output away, or starts it, establishes its column whatever the one before. -/

/-- What holds in every column: admissible parameters, an index in the table, the trace, and no channel under the polled backend. -/
abbrev BlockBase (s : State) : Prop :=
  s.params.valid = true ∧ s.activeModeIndex.toNat < s.params.modes.length ∧ startsSeparated false s.pinTrace = true ∧
  (s.params.waveBackend = .polled → s.chRunning = false ∧ s.chFreqHz = 0#16 ∧ s.chDuty = 0#8)

/-- The output side of the first three columns. -/
abbrev OutputOff (s : State) : Prop :=
  s.armed = false ∧ s.currentFrequencyHz = 0#16 ∧ s.outputLevel = false ∧ s.waveformPhase = false ∧ s.chRunning = false

/-- What an armed output has of its backend: a polled level that is the phase, or a running channel and no polled wave. -/
abbrev BackendDrives (s : State) : Prop :=
  (s.params.waveBackend = .polled → s.outputLevel = s.waveformPhase) ∧
  (s.params.waveBackend = .channel → s.outputLevel = false ∧ s.waveformPhase = false ∧
    s.chRunning = true ∧ s.chFreqHz = s.currentFrequencyHz ∧ s.chDuty = 50#8)

/-- The column `SAFE`. -/
abbrev InSafe (s : State) : Prop := s.msmState = .safe ∧ s.pinState = .hiZ ∧ s.indicatorHz = 0#16 ∧ OutputOff s

/-- The column `STANDBY`. -/
abbrev InStandby (s : State) : Prop := s.msmState = .standby ∧ s.pinState = .drivenLow ∧ OutputOff s

/-- The column `RUNNING`, blocked. -/
abbrev InBlocked (s : State) : Prop :=
  s.msmState = .running ∧ s.pinState = .drivenLow ∧ (modeAt s.params s.activeModeIndex).frequencyHz ≠ 0#16 ∧ OutputOff s

/-- The column `RUNNING`, armed. -/
abbrev InArmed (s : State) : Prop :=
  s.msmState = .running ∧ s.pinState = .activeWaveform ∧ (modeAt s.params s.activeModeIndex).frequencyHz ≠ 0#16 ∧ s.armed = true ∧
  s.currentFrequencyHz = clampFreq s.params (modeAt s.params s.activeModeIndex).frequencyHz ∧ BackendDrives s

/-- The output side of the invariants: one of the four columns. -/
abbrev OutputInv (s : State) : Prop := BlockBase s ∧ (InSafe s ∨ InStandby s ∨ InBlocked s ∨ InArmed s)

/-- The countdown side of the invariants: idle outside `RUNNING`, and inside it whatever is set or counted belongs to an armed tick line. -/
abbrev CountdownInv (s : State) : Prop :=
  (s.msmState ≠ .running → CountdownIdle s) ∧ ExpiryLineAlone s ∧
  (s.timeoutExpired = true → s.tickArmed = true) ∧ (s.remainingMs ≠ 0#32 → s.tickArmed = true)

theorem outputInv_of_blockInv {s : State} (h : BlockInv s) : OutputInv s := by
  obtain ⟨hvalid, hsafe, hstandby, hoff, ⟨harmed, -⟩, hblocked, hwave, hfreq, ⟨hlow, hphase⟩, hch, -, -, htrace, ⟨hidx, -, -⟩,
    hpolled, hchannel, hduty⟩ := h
  have outputOff (hpin : s.pinState ≠ .activeWaveform) (ha : s.armed = false) (hf : s.currentFrequencyHz = 0#16) : OutputOff s :=
    ⟨ha, hf, (hlow hpin).1, (hlow hpin).2, Bool.eq_false_iff.2 fun hr => hpin (hch.1 hr).2⟩
  refine ⟨⟨hvalid, hidx, htrace, hpolled⟩, ?_⟩
  cases hm : s.msmState with
  | safe =>
    obtain ⟨ha, hf, hind, -⟩ := hoff hm
    have hpin := hsafe.1 hm
    exact .inl ⟨hm, hpin, hind, outputOff (by simp [hpin]) ha hf⟩
  | standby =>
    obtain ⟨hpin, ha, hf, -⟩ := hstandby hm
    exact .inr (.inl ⟨hm, hpin, outputOff (by simp [hpin]) ha hf⟩)
  | running =>
    cases ha : s.armed with
    | false =>
      obtain ⟨hpin, hf⟩ := hblocked hm ha
      exact .inr (.inr (.inl ⟨hm, hpin, hwave hm, outputOff (by simp [hpin]) ha hf⟩))
    | true =>
      have hpin := harmed.1 ha
      refine .inr (.inr (.inr ⟨hm, hpin, hwave hm, ha, hfreq ha, fun hb => by simpa [ha] using hphase hb, fun hb => ?_⟩))
      have hr := hch.2 ⟨hb, hpin⟩
      exact ⟨(hchannel hb).1, (hchannel hb).2, hr, hduty hr⟩

theorem countdownInv_of_blockInv {s : State} (h : BlockInv s) : CountdownInv s := by
  obtain ⟨-, -, hstandby, hoff, -, -, -, -, -, -, -, hexpiry, -, ⟨-, hflag, hcount⟩, -⟩ := h
  refine ⟨fun hrun => ?_, hexpiry, hflag, hcount⟩
  cases hm : s.msmState with
  | safe => exact (hoff hm).2.2.2
  | standby => exact (hstandby hm).2.2.2
  | running => exact absurd hm hrun

theorem linesOnlyRunning_of_countdownInv {s : State} (h : CountdownInv s) : LinesOnlyRunning s := by
  intro hline
  by_contra hrun
  obtain ⟨htick, hexpiry, -⟩ := h.1 hrun
  simp [htick, hexpiry] at hline

/-- The first three columns: with the output off, most items say nothing but that it is off. -/
theorem blockInv_of_outputOff {s : State} (hbase : BlockBase s) (hcount : CountdownInv s) (hoff : OutputOff s)
    (hpin : s.pinState ≠ .activeWaveform) (hsafe : SafeIffHiZ s) (hstandby : s.msmState = .standby → s.pinState = .drivenLow)
    (hind : s.msmState = .safe → s.indicatorHz = 0#16)
    (hrun : s.msmState = .running → s.pinState = .drivenLow ∧ (modeAt s.params s.activeModeIndex).frequencyHz ≠ 0#16) :
    BlockInv s := by
  have hlines := linesOnlyRunning_of_countdownInv hcount
  obtain ⟨hidle, hexpiry, hflag, hremaining⟩ := hcount
  obtain ⟨hvalid, hidx, htrace, hpolled⟩ := hbase
  obtain ⟨ha, hf, hlevel, hphase, hch⟩ := hoff
  exact ⟨hvalid, hsafe, fun hm => ⟨hstandby hm, ha, hf, hidle (by simp [hm])⟩, fun hm => ⟨ha, hf, hind hm, hidle (by simp [hm])⟩,
    ⟨by simp [ha, hpin], by simp [ha]⟩, fun hm _ => ⟨(hrun hm).1, hf⟩, fun hm => (hrun hm).2, by simp [ArmedFrequency, ha],
    ⟨fun _ => ⟨hlevel, hphase⟩, fun _ => by simp [hlevel, ha]⟩, by simp [ChannelRunsIffWave, hch, hpin], hlines, hexpiry, htrace,
    ⟨hidx, hflag, hremaining⟩, hpolled, fun _ => ⟨hlevel, hphase⟩, by simp [hch]⟩

theorem blockInv_of_inArmed {s : State} (hbase : BlockBase s) (hcount : CountdownInv s) (harmed : InArmed s) : BlockInv s := by
  have hlines := linesOnlyRunning_of_countdownInv hcount
  obtain ⟨-, hexpiry, hflag, hremaining⟩ := hcount
  obtain ⟨hvalid, hidx, htrace, hpolled⟩ := hbase
  obtain ⟨hm, hpin, hwave, ha, hf, hlevel, hchannel⟩ := harmed
  have hch : s.chRunning = true → s.params.waveBackend = .channel := by
    intro hr
    cases hb : s.params.waveBackend with
    | channel => rfl
    | polled => exact absurd hr (by simp [(hpolled hb).1])
  exact ⟨hvalid, by simp [SafeIffHiZ, hm, hpin], by simp [StandbyIsLow, hm], by simp [SafeIsOff, hm],
    ⟨by simp [ha, hpin], fun _ => hm⟩, by simp [BlockedIsLow, ha], fun _ => hwave,
    fun _ => hf, ⟨by simp [hpin], fun hb => by simp [hlevel hb, ha]⟩, ⟨fun hr => ⟨hch hr, hpin⟩, fun ⟨hb, _⟩ => (hchannel hb).2.2.1⟩,
    hlines, hexpiry, htrace, ⟨hidx, hflag, hremaining⟩, hpolled, fun hb => ⟨(hchannel hb).1, (hchannel hb).2.1⟩,
    fun hr => (hchannel (hch hr)).2.2.2⟩

theorem blockInv_of_output_countdown {s : State} (hout : OutputInv s) (hcount : CountdownInv s) : BlockInv s := by
  obtain ⟨hbase, ⟨hm, hpin, hind, hoff⟩ | ⟨hm, hpin, hoff⟩ | ⟨hm, hpin, hwave, hoff⟩ | harmed⟩ := hout
  · exact blockInv_of_outputOff hbase hcount hoff (by simp [hpin]) (iff_of_true hm hpin) (by simp [hm]) (fun _ => hind) (by simp [hm])
  · exact blockInv_of_outputOff hbase hcount hoff (by simp [hpin]) (by simp [SafeIffHiZ, hm, hpin]) (fun _ => hpin) (by simp [hm]) (by simp [hm])
  · exact blockInv_of_outputOff hbase hcount hoff (by simp [hpin]) (by simp [SafeIffHiZ, hm, hpin]) (by simp [hm]) (by simp [hm])
      (fun _ => ⟨hpin, hwave⟩)
  · exact blockInv_of_inArmed hbase hcount harmed

/-- Rule R49 in the four columns of rule R181, the countdown apart. -/
theorem blockInv_iff (s : State) : BlockInv s ↔ OutputInv s ∧ CountdownInv s :=
  ⟨fun h => ⟨outputInv_of_blockInv h, countdownInv_of_blockInv h⟩, fun ⟨hout, hcount⟩ => blockInv_of_output_countdown hout hcount⟩

/-! ### The trace -/

/-- A stop closes whatever start is open before it (rule R128). -/
theorem startsSeparated_append_waveStop (running : Bool) (before after : List PinEvent) :
    startsSeparated running (before ++ .waveStop :: after) = (startsSeparated running before && startsSeparated false after) := by
  induction before generalizing running with
  | nil => simp [startsSeparated]
  | cons e before ih => cases e <;> simp [startsSeparated, ih, Bool.and_assoc]

/-- Every pin operation appends the stop events and then one event, which may be a start. -/
theorem startsSeparated_stopEvents {s : State} (e : PinEvent) (h : startsSeparated false s.pinTrace = true) :
    startsSeparated false (s.pinTrace ++ stopEvents s ++ [e]) = true := by
  rw [stopEvents]
  split_ifs
  · rw [List.append_assoc, List.cons_append, startsSeparated_append_waveStop, h]; cases e <;> rfl
  · rw [List.append_assoc, List.cons_append, startsSeparated_append_waveStop, h]; cases e <;> rfl

/-! ### The pin operations and the four columns -/

theorem runningAfterStop_eq_false {s : State} (h : BlockBase s) : runningAfterStop s = false := by
  obtain ⟨-, -, -, hpolled⟩ := h
  cases hb : s.params.waveBackend with
  | channel => rw [runningAfterStop, if_pos hb]
  | polled => rw [runningAfterStop, if_neg (by simp [hb]), (hpolled hb).1]

/-- Stopping the waveform and putting the pin to `pin` keeps what holds in every column (rule R121). -/
theorem blockBase_stopped {s : State} (pin : PinState) (e : PinEvent) (h : BlockBase s) : BlockBase { s with
    pinState := pin, outputLevel := false, waveformPhase := false, chRunning := runningAfterStop s,
    pinTrace := s.pinTrace ++ stopEvents s ++ [e] } := by
  have hstopped := runningAfterStop_eq_false h
  obtain ⟨hvalid, hidx, htrace, hpolled⟩ := h
  exact ⟨hvalid, hidx, startsSeparated_stopEvents e htrace, fun hb => ⟨hstopped, (hpolled hb).2⟩⟩

theorem blockBase_toDrivenLow {s : State} (h : BlockBase s) : BlockBase (toDrivenLow s) := by
  rw [toDrivenLow_eq]; exact blockBase_stopped .drivenLow .setDrivenLow h

theorem blockBase_toHighImpedance {s : State} (h : BlockBase s) : BlockBase (toHighImpedance s) := by
  rw [toHighImpedance_eq]; exact blockBase_stopped .hiZ .setHiZ h

theorem outputOff_disarm_toDrivenLow {s : State} (h : BlockBase s) : OutputOff (disarm (toDrivenLow s)) := by
  rw [toDrivenLow_eq]
  exact ⟨rfl, rfl, rfl, rfl, runningAfterStop_eq_false h⟩

theorem outputOff_toHighImpedance {s : State} (h : BlockBase s) (harmed : s.armed = false) (hfreq : s.currentFrequencyHz = 0#16) :
    OutputOff (toHighImpedance s) := by
  rw [toHighImpedance_eq]
  exact ⟨harmed, hfreq, rfl, rfl, runningAfterStop_eq_false h⟩

/-- Rule R188: the zero-frequency case ends in `STANDBY`. -/
theorem outputInv_selectNoWaveform {s : State} (h : BlockBase s) : OutputInv (selectNoWaveform s) :=
  ⟨blockBase_toDrivenLow h, .inr (.inl ⟨rfl, rfl, outputOff_disarm_toDrivenLow h⟩)⟩

/-- Rule R190: the blocked case ends in `RUNNING`, blocked. -/
theorem outputInv_selectBlocked {s : State} (h : BlockBase s) (hwave : (modeAt s.params s.activeModeIndex).frequencyHz ≠ 0#16) :
    OutputInv (selectBlocked s) :=
  ⟨blockBase_toDrivenLow h, .inr (.inr (.inl ⟨rfl, rfl, hwave, outputOff_disarm_toDrivenLow h⟩))⟩

/-- Rule R189: the waveform case ends in `RUNNING`, armed, on either backend. -/
theorem outputInv_selectWaveform {s : State} (h : BlockBase s) (hwave : (modeAt s.params s.activeModeIndex).frequencyHz ≠ 0#16) :
    OutputInv (selectWaveform (modeAt s.params s.activeModeIndex).frequencyHz s) := by
  obtain ⟨hvalid, hidx, htrace, hpolled⟩ := h
  rw [selectWaveform]
  cases hb : s.params.waveBackend with
  | polled =>
    have htrace' := startsSeparated_stopEvents (.waveStart (clampFreq s.params (modeAt s.params s.activeModeIndex).frequencyHz)) htrace
    simp only [stopEvents, hb, reduceCtorEq, false_and, if_false, List.append_assoc, List.cons_append, List.nil_append] at htrace'
    rw [toActiveWaveform_polled _ _ hb]
    exact ⟨⟨hvalid, hidx, htrace', hpolled⟩,
      .inr (.inr (.inr ⟨rfl, rfl, hwave, rfl, rfl, fun _ => rfl, fun hc => by simp [hb] at hc⟩))⟩
  | channel =>
    rw [toActiveWaveform_channel _ _ hb]
    exact ⟨⟨hvalid, hidx, startsSeparated_stopEvents _ htrace, fun hp => by simp [hb] at hp⟩,
      .inr (.inr (.inr ⟨rfl, rfl, hwave, rfl, rfl, fun hp => by simp [hb] at hp, fun _ => ⟨rfl, rfl, rfl, rfl, rfl⟩⟩))⟩

/-- Rule R194: in `SAFE` the pin is put to Hi-Z again, and the column stays. -/
theorem outputInv_toHighImpedance {s : State} (h : OutputInv s) (hsafe : s.msmState = .safe) : OutputInv (toHighImpedance s) := by
  obtain ⟨hbase, ⟨hm, -, hind, ha, hf, -⟩ | ⟨hm, -⟩ | ⟨hm, -⟩ | ⟨hm, -⟩⟩ := h
  · exact ⟨blockBase_toHighImpedance hbase, .inl ⟨hm, rfl, hind, outputOff_toHighImpedance hbase ha hf⟩⟩
  · simp [hsafe] at hm
  · simp [hsafe] at hm
  · simp [hsafe] at hm

/-- The output side of a trip (rule R195): `RUNNING` stays, the output is blocked. -/
theorem outputInv_tripOutput {s : State} (h : BlockBase s) (hrun : s.msmState = .running)
    (hwave : (modeAt s.params s.activeModeIndex).frequencyHz ≠ 0#16) : OutputInv (tripOutput s) :=
  ⟨blockBase_toDrivenLow h, .inr (.inr (.inl ⟨hrun, rfl, hwave, outputOff_disarm_toDrivenLow h⟩))⟩

theorem inArmed_of_activeWaveform {s : State} (h : OutputInv s) (hpin : s.pinState = .activeWaveform) : InArmed s := by
  obtain ⟨-, ⟨-, hp, -⟩ | ⟨-, hp, -⟩ | ⟨-, hp, -⟩ | harmed⟩ := h
  · simp [hpin] at hp
  · simp [hpin] at hp
  · simp [hpin] at hp
  · exact harmed

/-- Rule R144: the level a tick leaves is the phase, since the output is armed. -/
theorem outputInv_genTick {s : State} (h : OutputInv s) (hpin : s.pinState = .activeWaveform)
    (hbackend : s.params.waveBackend = .polled) : OutputInv (genTick s) := by
  obtain ⟨hm, -, hwave, ha, hf, -, -⟩ := inArmed_of_activeWaveform h hpin
  refine ⟨h.1, .inr (.inr (.inr ⟨hm, hpin, hwave, ha, hf, fun _ => ?_, fun hc => ?_⟩))⟩
  · simp [genTick, ha]
  · simp [hbackend] at hc

/-- The indicator is part of the invariants in `SAFE` only. -/
theorem outputInv_indicator {s : State} (h : OutputInv s) (hsafe : s.msmState ≠ .safe) (hz : Half) :
    OutputInv { s with indicatorHz := hz } := by
  obtain ⟨hbase, ⟨hm, -⟩ | hcolumn⟩ := h
  · exact absurd hm hsafe
  · exact ⟨hbase, .inr hcolumn⟩

/-! ### The countdown operations -/

theorem countdownInv_cancelCountdown (s : State) : CountdownInv (cancelCountdown s) :=
  ⟨fun _ => ⟨rfl, rfl, rfl, rfl⟩, by simp [ExpiryLineAlone], by simp, by simp⟩

/-- A started countdown is one in `RUNNING` with both lines armed; any other start is a cancel (rule R184). -/
theorem countdownInv_startOrRestartCountdown (s : State) : CountdownInv (startOrRestartCountdown s) := by
  rw [startOrRestartCountdown]
  split_ifs with hruns
  · have hrun : s.msmState = .running := by simp [countdownRuns] at hruns; exact hruns.1.1
    exact ⟨fun hm => absurd hrun hm, fun _ => ⟨rfl, rfl⟩, fun _ => rfl, fun _ => rfl⟩
  · exact countdownInv_cancelCountdown s

theorem blockInv_cancelCountdown {s : State} (h : OutputInv s) : BlockInv (cancelCountdown s) :=
  blockInv_of_output_countdown h (countdownInv_cancelCountdown s)

theorem blockInv_startOrRestartCountdown {s : State} (h : OutputInv s) : BlockInv (startOrRestartCountdown s) := by
  have hout : OutputInv (startOrRestartCountdown s) := by rw [startOrRestartCountdown_eq]; exact h
  exact blockInv_of_output_countdown hout (countdownInv_startOrRestartCountdown s)

theorem blockInv_finishMode {s : State} (idx : Half) (h : OutputInv s) (hsafe : s.msmState ≠ .safe) : BlockInv (finishMode idx s) :=
  blockInv_startOrRestartCountdown (outputInv_indicator h hsafe _)

theorem blockInv_enterStandby {s : State} (h : BlockBase s) : BlockInv (enterStandby s) :=
  blockInv_cancelCountdown ⟨blockBase_toDrivenLow h, .inr (.inl ⟨rfl, rfl, outputOff_disarm_toDrivenLow h⟩)⟩

theorem blockInv_enterSafe {s : State} (h : BlockBase s) : BlockInv (enterSafe s) :=
  blockInv_cancelCountdown ⟨blockBase_toHighImpedance h,
    .inl ⟨rfl, rfl, rfl, outputOff_toHighImpedance (s := disarm s) h rfl rfl⟩⟩

/-- Clearing a flag that nothing counts on keeps the countdown side. -/
theorem countdownInv_clear_flag {s : State} (h : CountdownInv s) : CountdownInv { s with timeoutExpired := false } := by
  obtain ⟨hidle, hexpiry, -, hremaining⟩ := h
  refine ⟨fun hrun => ?_, fun he => ⟨(hexpiry he).1, rfl⟩, by simp, hremaining⟩
  obtain ⟨htick, he, -, hr⟩ := hidle hrun
  exact ⟨htick, he, rfl, hr⟩

/-! ### Every command keeps the invariants -/

theorem modeExists_iff (p : Params) (idx : Half) : modeExists p idx = true ↔ idx.toNat < p.modes.length := by
  rw [modeExists, decide_eq_true_iff]

/-- An index of the table may be selected whatever the mode was. -/
theorem blockBase_activeModeIndex {s : State} {idx : Half} (h : BlockBase s) (hidx : modeExists s.params idx = true) :
    BlockBase { s with activeModeIndex := idx } := by
  obtain ⟨hvalid, -, htrace, hpolled⟩ := h
  exact ⟨hvalid, (modeExists_iff _ _).1 hidx, htrace, hpolled⟩

theorem blockInv_commandCase {s t : State} {i : Instr} (h : BlockInv s) (hcase : CommandCase s i t) : BlockInv t := by
  obtain ⟨hout, hcount⟩ := (blockInv_iff s).1 h
  have hbase := hout.1
  cases hcase with
  | powerOn => exact blockInv_enterStandby hbase
  | powerOff => exact blockInv_enterSafe hbase
  | applyModeIgnored idx hig => exact h
  | applyModeNoWave idx hidx hsafe hfreq =>
    exact blockInv_finishMode idx (outputInv_selectNoWaveform (blockBase_activeModeIndex hbase hidx)) (by simp [selectNoWaveform])
  | applyModeBlocked idx hidx hsafe hfreq hblocked =>
    exact blockInv_finishMode idx (outputInv_selectBlocked (blockBase_activeModeIndex hbase hidx) hfreq) (by simp [selectBlocked])
  | applyModeWave idx hidx hsafe hfreq hblocked =>
    exact blockInv_finishMode idx (outputInv_selectWaveform (blockBase_activeModeIndex hbase hidx) hfreq) (by simp [selectWaveform])
  | setLimitStored b hkeep => exact h
  | setLimitCancelled hrun hset => exact blockInv_cancelCountdown hout
  | setLimitRestarted hrun hclear => exact blockInv_startOrRestartCountdown hout
  | applyProfileSafe hsafe => exact blockInv_of_output_countdown (outputInv_toHighImpedance hout hsafe) hcount
  | applyProfileStandby hsafe => exact blockInv_enterStandby hbase
  | sampleFirst hinit => exact h
  | sampleNext hinit => rw [recordRawChange_eq, adoptStableLevel_eq]; exact h
  | tickTrip hblocked hrun harmed =>
    obtain ⟨-, -, -, -, -, -, hwave, -⟩ := h
    exact blockInv_cancelCountdown (outputInv_tripOutput hbase hrun (hwave hrun))
  | tickTripped hblocked hrun harmed => exact blockInv_cancelCountdown hout
  | tickWave hblocked hrun hpin hbackend => exact blockInv_of_output_countdown (outputInv_genTick hout hpin hbackend) hcount
  | tickIdle hidle => exact h
  | drainClear hflag => exact h
  | drainFlagOnly hflag hrun => exact blockInv_of_output_countdown hout (countdownInv_clear_flag (s := s) hcount)
  | drainToStandby hflag hrun htarget => exact blockInv_enterStandby hbase
  | drainToSafe hflag hrun htarget => exact blockInv_enterSafe hbase
  | buildSetSpeed rpm => exact h

/-! ### Every step keeps the invariants -/

/-- Rules R49 and R52: the reset state is in the column `SAFE` with nothing counted. -/
theorem blockInv_resetFor {p : Params} (u : Unspecified) (hvalid : p.valid = true) : BlockInv (State.resetFor p u) := by
  obtain ⟨-, hmodes, -⟩ := (params_valid_iff p).1 hvalid
  have hidx : 0 < p.modes.length := ((modeTableOk_iff p).1 hmodes).1
  exact blockInv_of_output_countdown
    ⟨⟨hvalid, hidx, rfl, fun _ => ⟨rfl, rfl, rfl⟩⟩, .inl ⟨rfl, rfl, rfl, rfl, rfl, rfl, rfl, rfl⟩⟩
    ⟨fun _ => ⟨rfl, rfl, rfl, rfl⟩, by simp [ExpiryLineAlone, State.resetFor], by simp [State.resetFor], by simp [State.resetFor]⟩

/-- A firing of the tick line counts down under an armed tick line (rule R232). -/
theorem blockInv_tickFire {s : State} (h : BlockInv s) (hdue : tickDue s = true) : BlockInv (tickFire s) := by
  obtain ⟨hout, hidle, hexpiry, hflag, -⟩ := (blockInv_iff s).1 h
  obtain ⟨htick, -⟩ := (tickDue_iff s).1 hdue
  refine blockInv_of_output_countdown hout ⟨fun hrun => ?_, hexpiry, hflag, fun _ => htick⟩
  exact absurd ((hidle hrun).1) (by simp [htick])

/-- A firing of the expiry line sets the flag under an armed tick line (rule R233 and rule R49 item 11). -/
theorem blockInv_expiryFire {s : State} (h : BlockInv s) (hdue : expiryDue s = true) : BlockInv (expiryFire s) := by
  obtain ⟨hout, hidle, hexpiry, -, hremaining⟩ := (blockInv_iff s).1 h
  obtain ⟨harmed, -⟩ := (expiryDue_iff s).1 hdue
  refine blockInv_of_output_countdown hout ⟨fun hrun => ?_, by simp [ExpiryLineAlone], fun _ => (hexpiry harmed).1, hremaining⟩
  obtain ⟨-, he, -⟩ := hidle hrun
  exact absurd he (by simp [harmed])

/-- Settles O33, by the kinds of a step and the cases of a command: each leaves the block in a column of rule R181. -/
theorem invariantKeptByEveryStep : Obligations.InvariantKeptByEveryStep := by
  intro s t h hstep
  cases stepKind_of_step hstep with
  | command v rest i hinbox hdecode hcase => exact blockInv_commandCase (s := consumed rest s) h hcase
  | reset rest ht =>
    obtain ⟨hvalid, -⟩ := h
    rw [ht]; exact blockInv_resetFor (Config.resetDraw (s.draws + 1)) hvalid
  | tickFires hdue ht => rw [ht]; exact blockInv_tickFire (s := s) h hdue
  | expiryFires hdue ht => rw [ht]; exact blockInv_expiryFire (s := s) h hdue
  | quiet ht => rw [ht]; exact h

/-- Settles O32: at reset the tick line and the expiry line are disarmed, so the staircase asks for nothing. -/
theorem invariantHeldAtReset : Obligations.InvariantHeldAtReset := by
  have hdevice : Config.device.valid = true := by decide
  refine ⟨fun p u hvalid => ⟨blockInv_resetFor u hvalid, ?_, ?_⟩, ⟨Config.device, namedAtReset, hdevice, rfl⟩,
    blockInv_resetFor namedAtReset hdevice⟩
  · simp [State.resetFor]
  · simp [State.resetFor]

/-! ### Who writes what -/

/-- Rules R27 and R189 for a command: the output is armed after it only if it was armed before, or by an unblocked `APPLY_MODE`. -/
theorem armed_of_commandCase {s t : State} {i : Instr} (hcase : CommandCase s i t) (harmed : t.armed = true) :
    s.armed = true ∨ ∃ idx, i = .applyMode idx ∧ blocked s = false ∧ (modeAt s.params idx).frequencyHz ≠ 0#16 ∧ s.msmState ≠ .safe := by
  cases hcase with
  | applyModeWave idx hidx hsafe hfreq hblocked => exact .inr ⟨idx, rfl, hblocked, hfreq, hsafe⟩
  | powerOn => simp [enterStandby] at harmed
  | powerOff => simp [enterSafe] at harmed
  | applyModeNoWave => simp [finishMode, selectNoWaveform] at harmed
  | applyModeBlocked => simp [finishMode, selectBlocked] at harmed
  | applyProfileStandby => simp [enterStandby] at harmed
  | tickTrip => simp [tripOutput] at harmed
  | drainToStandby => simp [enterStandby] at harmed
  | drainToSafe => simp [enterSafe] at harmed
  | setLimitRestarted => exact .inl (by simpa using harmed)
  | sampleNext => rw [recordRawChange_eq, adoptStableLevel_eq] at harmed; exact .inl harmed
  | applyModeIgnored | setLimitStored | setLimitCancelled | applyProfileSafe | sampleFirst | tickTripped | tickWave | tickIdle |
    drainClear | drainFlagOnly | buildSetSpeed => exact .inl harmed

/-- Settles O38: of the kinds of a step only a command can arm, and of the cases of a command only the waveform case. -/
theorem onlyApplyModeArms : Obligations.OnlyApplyModeArms := by
  intro s t hstep hs harmed
  cases stepKind_of_step hstep with
  | command v rest i hinbox hdecode hcase =>
    obtain hbefore | ⟨idx, rfl, hblocked, hfreq, hsafe⟩ := armed_of_commandCase hcase harmed
    · exact absurd hbefore (by simp [consumed, hs])
    · rw [blocked_eq, Bool.and_eq_false_iff] at hblocked
      exact ⟨v, rest, idx, hinbox, hdecode, hblocked, hfreq, hsafe⟩
  | reset rest ht => rw [ht] at harmed; simp [assertReset, State.resetFor] at harmed
  | tickFires hdue ht => rw [ht] at harmed; simp [hs] at harmed
  | expiryFires hdue ht => rw [ht] at harmed; simp [hs] at harmed
  | quiet ht => rw [ht] at harmed; simp [hs] at harmed

/-- Settles O40: each case of a command is a composition of operations, and each operation leaves the elements it does not name. -/
theorem commandsWriteOnlyTheirElements : Obligations.CommandsWriteOnlyTheirElements := by
  intro i s t hexec
  cases exec_eq_next_iff.1 hexec with
  | powerOn | applyProfileStandby | drainToStandby => simp [mnemonicOf, enterStandby]
  | powerOff | drainToSafe => simp [mnemonicOf, enterSafe]
  | applyModeNoWave => simp [mnemonicOf, finishMode, selectNoWaveform]
  | applyModeBlocked => simp [mnemonicOf, finishMode, selectBlocked]
  | applyModeWave => simp [mnemonicOf, finishMode, selectWaveform]
  | sampleFirst => simp [mnemonicOf, firstSample]
  | sampleNext => simp [mnemonicOf, recordRawChange_eq, adoptStableLevel_eq]
  | tickTrip => simp [mnemonicOf, tripOutput]
  | applyModeIgnored | setLimitStored | setLimitCancelled | setLimitRestarted | applyProfileSafe | tickTripped | tickWave | tickIdle |
    drainClear | drainFlagOnly | buildSetSpeed => simp [mnemonicOf]

/-! ### The raw input level -/

/-- The state with another raw level on the input pad (rule R46). -/
def withPinIn (level : Bool) (s : State) : State := { s with pinIn := level }

theorem startOrRestartCountdown_withPinIn (level : Bool) (s : State) :
    startOrRestartCountdown (withPinIn level s) = withPinIn level (startOrRestartCountdown s) := by
  rw [startOrRestartCountdown_eq, startOrRestartCountdown_eq]; rfl

theorem finishMode_withPinIn (idx : Half) (level : Bool) (s : State) :
    finishMode idx (withPinIn level s) = withPinIn level (finishMode idx s) := by
  rw [finishMode, finishMode, startOrRestartCountdown_eq, startOrRestartCountdown_eq]; rfl

theorem selectWaveform_withPinIn (f : Half) (level : Bool) (s : State) :
    selectWaveform f (withPinIn level s) = withPinIn level (selectWaveform f s) := by
  rw [selectWaveform, selectWaveform]
  cases hb : s.params.waveBackend with
  | polled => rw [toActiveWaveform_polled f s hb, toActiveWaveform_polled f (withPinIn level s) hb]; rfl
  | channel => rw [toActiveWaveform_channel f s hb, toActiveWaveform_channel f (withPinIn level s) hb]; rfl

theorem CommandCase.of_eq {s t u : State} {i : Instr} (h : CommandCase s i u) (ht : u = t) : CommandCase s i t := ht ▸ h

/-- No command but `SAMPLE` reads the raw level: with another one it takes the same case and leaves the same elements. -/
theorem commandCase_withPinIn {s t : State} {i : Instr} (level : Bool) (hcase : CommandCase s i t) (hsample : i ≠ .sample) :
    CommandCase (withPinIn level s) i (withPinIn level t) := by
  cases hcase with
  | powerOn => exact .powerOn
  | powerOff => exact .powerOff
  | applyModeIgnored idx hig => exact .applyModeIgnored idx hig
  | applyModeNoWave idx hidx hsafe hfreq =>
    exact (CommandCase.applyModeNoWave (s := withPinIn level s) idx hidx hsafe hfreq).of_eq
      (congrArg executed (finishMode_withPinIn idx level (selectNoWaveform { s with activeModeIndex := idx })))
  | applyModeBlocked idx hidx hsafe hfreq hblocked =>
    exact (CommandCase.applyModeBlocked (s := withPinIn level s) idx hidx hsafe hfreq hblocked).of_eq
      (congrArg executed (finishMode_withPinIn idx level (selectBlocked { s with activeModeIndex := idx })))
  | applyModeWave idx hidx hsafe hfreq hblocked =>
    have hselect := selectWaveform_withPinIn (modeAt s.params idx).frequencyHz level { s with activeModeIndex := idx }
    exact (CommandCase.applyModeWave (s := withPinIn level s) idx hidx hsafe hfreq hblocked).of_eq
      (congrArg executed ((congrArg (finishMode idx) hselect).trans (finishMode_withPinIn idx level _)))
  | setLimitStored b hkeep => exact .setLimitStored b hkeep
  | setLimitCancelled hrun hset => exact .setLimitCancelled hrun hset
  | setLimitRestarted hrun hclear =>
    exact (CommandCase.setLimitRestarted (s := withPinIn level s) hrun hclear).of_eq
      (congrArg executed (startOrRestartCountdown_withPinIn level { s with limitEnabled := true }))
  | applyProfileSafe hsafe => exact .applyProfileSafe hsafe
  | applyProfileStandby hsafe => exact .applyProfileStandby hsafe
  | sampleFirst hinit => exact absurd rfl hsample
  | sampleNext hinit => exact absurd rfl hsample
  | tickTrip hblocked hrun harmed => exact .tickTrip hblocked hrun harmed
  | tickTripped hblocked hrun harmed => exact .tickTripped hblocked hrun harmed
  | tickWave hblocked hrun hpin hbackend => exact .tickWave hblocked hrun hpin hbackend
  | tickIdle hidle => exact .tickIdle hidle
  | drainClear hflag => exact .drainClear hflag
  | drainFlagOnly hflag hrun => exact .drainFlagOnly hflag hrun
  | drainToStandby hflag hrun htarget => exact .drainToStandby hflag hrun htarget
  | drainToSafe hflag hrun htarget => exact .drainToSafe hflag hrun htarget
  | buildSetSpeed rpm => exact .buildSetSpeed rpm

theorem tickTurn_withPinIn (level : Bool) (s : State) : tickTurn (withPinIn level s) = withPinIn level (tickTurn s) :=
  (apply_ite (withPinIn level) (tickDue s = true) (tickFire s) s).symm

theorem expiryTurn_withPinIn (level : Bool) (s : State) : expiryTurn (withPinIn level s) = withPinIn level (expiryTurn s) :=
  (apply_ite (withPinIn level) (expiryDue s = true) (expiryFire s) s).symm

theorem fireDueLine_withPinIn (tickFirst level : Bool) (s : State) :
    fireDueLine tickFirst (withPinIn level s) = withPinIn level (fireDueLine tickFirst s) := by
  rw [fireDueLine, fireDueLine, expiryTurn_withPinIn, apply_ite (withPinIn level)]; rfl

theorem timePasses_withPinIn (tickFirst level : Bool) (s : State) :
    timePasses tickFirst (withPinIn level s) = withPinIn level (timePasses tickFirst s) := by
  rw [timePasses, timePasses, fireDueLine_withPinIn, apply_ite (withPinIn level)]; rfl

theorem pulse_withPinIn (tickFirst level : Bool) (s : State) :
    pulse tickFirst (withPinIn level s) = withPinIn level (pulse tickFirst s) := by
  rw [pulse, pulse, fireDueLine_withPinIn, apply_ite (withPinIn level)]; rfl

theorem untilTime_withPinIn (u : Word) (tickFirst level : Bool) (s : State) :
    untilTime u tickFirst (withPinIn level s) = withPinIn level (untilTime u tickFirst s) := by
  rw [untilTime, untilTime, timePasses_withPinIn, apply_ite (withPinIn level)]; rfl

/-! ### The word of `SAMPLE` -/

theorem withoutOperand_eq_command {operand : Half} {i j : Instr} : withoutOperand operand i = .command j ↔ operand = 0#16 ∧ i = j := by
  rw [withoutOperand]
  split_ifs with h
  · simp [h]
  · simp [h]

theorem limitOperand_ne_sample (operand : Half) : limitOperand operand ≠ .command .sample := by
  rw [limitOperand]
  split_ifs <;> simp

/-- Rule R91: a word is its three fields. -/
theorem toNat_eq_fields (v : Word) :
    v.toNat = (opcodeField v).toNat * 2 ^ 24 + (zeroField v).toNat * 2 ^ 16 + (operandField v).toNat := by
  have hv := v.isLt
  simp only [opcodeField, zeroField, operandField, BitVec.extractLsb'_toNat, Nat.shiftRight_eq_div_pow]
  omega

/-- Rule R93: `SAMPLE` has one word. -/
theorem eq_of_decode_sample {v : Word} (h : decode v = .command .sample) : v = 0x06000000#32 := by
  have hzero : zeroField v = 0x00#8 := by
    by_contra hne
    simp [decode, hne] at h
  have hopcode : opcodeField v = 0x06#8 := by
    by_contra hne
    simp only [decode, hzero, ne_eq, not_true, if_false, hne] at h
    split_ifs at h <;> simp [withoutOperand_eq_command, limitOperand_ne_sample] at h
  have hoperand : operandField v = 0x0000#16 := by
    simpa [decode, hzero, hopcode, withoutOperand_eq_command] using h
  apply BitVec.eq_of_toNat_eq
  rw [toNat_eq_fields v, hopcode, hzero, hoperand]; rfl

/-! ### The steps that do not see the raw level -/

theorem readValue_withPinIn (bits off : Nat) (level : Bool) (s : State) : readValue bits off (withPinIn level s) = readValue bits off s := by
  rw [readValue, readValue]
  cases accessed bits off with
  | none => rfl
  | some r => cases r <;> rfl

theorem busRead_withPinIn (bits off : Nat) (level : Bool) (s : State) :
    busRead bits off (withPinIn level s) = withPinIn level (busRead bits off s) := by
  rw [busRead, readValue_withPinIn]; rfl

theorem busWrite_withPinIn {bits off : Nat} {v : Word} {s t : State} (level : Bool)
    (hsample : ¬ (bits = 32 ∧ off = 0 ∧ v = 0x06000000#32)) (h : busWrite bits off v s = .next t) :
    busWrite bits off v (withPinIn level s) = .next (withPinIn level t) := by
  rw [busWrite] at h ⊢
  cases haccess : accessed bits off with
  | none => rw [haccess] at h; obtain rfl := Host.Outcome.next.inj h; rfl
  | some r =>
    rw [haccess] at h
    cases r with
    | cmd =>
      obtain ⟨hbits, hoff⟩ := accessed_cmd.1 haccess
      obtain ⟨i, hdecode, hexec⟩ | ⟨⟨why, hdecode⟩, rfl⟩ := runCommandWord_cases h
      · have hi : i ≠ .sample := by rintro rfl; exact hsample ⟨hbits, hoff, eq_of_decode_sample hdecode⟩
        simp only [runCommandWord, hdecode]
        exact (commandCase_withPinIn level (exec_eq_next_iff.1 hexec) hi).exec_eq
      · simp only [runCommandWord, hdecode]; rfl
    | _ => obtain rfl := Host.Outcome.next.inj h; rfl

theorem takeEvent_withPinIn {e : Event} {s t : State} (level : Bool) (hpin : ∀ l, e ≠ .pinIn l)
    (hsample : e ≠ .regWrite 32 0x00 0x06000000#32) (h : takeEvent e s = .next t) :
    takeEvent e (withPinIn level s) = .next (withPinIn level t) := by
  cases e with
  | regWrite bits off v =>
    exact busWrite_withPinIn level (by rintro ⟨rfl, rfl, rfl⟩; exact hsample rfl) h
  | pinIn l => exact absurd rfl (hpin l)
  | regRead bits off => obtain rfl := Host.Outcome.next.inj h; exact congrArg _ (busRead_withPinIn bits off level s)
  | tickFire => obtain rfl := Host.Outcome.next.inj h; exact congrArg _ (tickTurn_withPinIn level s)
  | expiryFire => obtain rfl := Host.Outcome.next.inj h; exact congrArg _ (expiryTurn_withPinIn level s)
  | msPulse tickFirst => obtain rfl := Host.Outcome.next.inj h; exact congrArg _ (pulse_withPinIn tickFirst level s)
  | runUntil u tickFirst => obtain rfl := Host.Outcome.next.inj h; exact congrArg _ (untilTime_withPinIn u tickFirst level s)
  | channelMoves => obtain rfl := Host.Outcome.next.inj h; rfl
  | rst asserted => obtain rfl := Host.Outcome.next.inj h; cases asserted <;> rfl

theorem takeEventInReset_withPinIn (e : Event) (level : Bool) (s : State) :
    takeEventInReset e (withPinIn level s) = withPinIn level (takeEventInReset e s) := by
  cases e <;> rfl

theorem step_withPinIn {s t : State} (level : Bool) (h : step s = .next t) (hpin : ∀ l rest, s.inbox ≠ .pinIn l :: rest)
    (hsample : ∀ rest, s.inbox ≠ .regWrite 32 0x00 0x06000000#32 :: rest) :
    step (withPinIn level s) = .next (withPinIn level t) := by
  have hvalid := valid_of_step h
  rw [step_valid (s := withPinIn level s) hvalid]
  obtain ⟨hinbox, hrst, rfl⟩ | ⟨hinbox, hrst, rfl⟩ | ⟨e, rest, hinbox, hrst, rfl⟩ | ⟨e, rest, hinbox, hrst, htake⟩ := step_cases h
  · rw [nextStep_nil (s := withPinIn level s) hinbox, ownStep, if_pos (c := (withPinIn level s).rst = true) hrst]; rfl
  · rw [nextStep_nil (s := withPinIn level s) hinbox, ownStep,
      if_neg (c := (withPinIn level s).rst = true) (ne_true_of_eq_false hrst)]
    exact congrArg _ (timePasses_withPinIn _ level (drawn s))
  · rw [nextStep_in_reset (s := withPinIn level s) hinbox hrst]
    exact congrArg _ (takeEventInReset_withPinIn e level (consumed rest s))
  · rw [nextStep_cons (s := withPinIn level s) hinbox hrst]
    refine takeEvent_withPinIn level (fun l he => hpin l rest ?_) (fun he => hsample rest ?_) htake
    · rw [hinbox, he]
    · rw [hinbox, he]

theorem step_takes_event {s : State} {e : Event} {rest : List Event} (hvalid : s.params.valid = true) (hrst : s.rst = false)
    (hinbox : s.inbox = e :: rest) : step s = takeEvent e (consumed rest s) := by
  rw [step_valid hvalid, nextStep_cons hinbox hrst]

/-- Settles O60: the event's own step writes the port, and every step that reads it is a `SAMPLE`. -/
theorem rawInputIsSeenOnlyBySample : Obligations.RawInputIsSeenOnlyBySample :=
  ⟨fun _ _ _ hvalid hrst => ⟨fun hinbox => step_takes_event hvalid hrst hinbox, fun hinbox => step_takes_event hvalid hrst hinbox⟩,
    fun _ _ level hstep hpin hsample => step_withPinIn level hstep hpin hsample⟩

end Machine
end Sys2Proof

/-! The register space (`20_memory.md`): accesses and what a command word written to `CMD` runs (rules R64 to R67, R71), the layouts of the
registers (rules R62, R68 to R72, R80), and what the timer context may write of the state (rule R74). -/
namespace Sys2Proof
namespace Machine

/-! ### Accesses -/

theorem registerValue_consumed (r : Reg) (rest : List Event) (s : State) :
    registerValue r (consumed rest s) = registerValue r s := by
  cases r <;> rfl

theorem readValue_accessed {bits off : Nat} {r : Reg} (h : accessed bits off = some r) (s : State) :
    readValue bits off s = registerValue r s := by
  rw [readValue, h]

theorem readValue_offsetOf (r : Reg) (s : State) : readValue 32 (offsetOf r) s = registerValue r s :=
  readValue_accessed (accessed_offsetOf r) s

theorem readValue_refused {bits off : Nat} (h : accessed bits off = none) (s : State) : readValue bits off s = 0#32 := by
  rw [readValue, h]

theorem readValue_consumed (bits off : Nat) (rest : List Event) (s : State) :
    readValue bits off (consumed rest s) = readValue bits off s := by
  cases haccess : accessed bits off with
  | none => rw [readValue_refused haccess, readValue_refused haccess]
  | some r => rw [readValue_accessed haccess, readValue_accessed haccess, registerValue_consumed]

theorem busWrite_refused {bits off : Nat} (h : accessed bits off = none) (v : Word) (s : State) :
    busWrite bits off v s = .next s := by
  rw [busWrite, h]

theorem busWrite_cmd (v : Word) (s : State) : busWrite 32 0x00 v s = runCommandWord v s := rfl

theorem busWrite_offsetOf {r : Reg} (hcmd : r ≠ .cmd) (v : Word) (s : State) :
    busWrite 32 (offsetOf r) v s = .next (writeRegister r v s) := by
  cases r with
  | cmd => exact absurd rfl hcmd
  | _ => rfl

/-- Rule R67: only the two staged registers store what is written to them. -/
theorem writeRegister_of_not_staged {r : Reg} (h0 : r ≠ .prof0) (h1 : r ≠ .prof1) (v : Word) (s : State) : writeRegister r v s = s := by
  cases r with
  | prof0 => exact absurd rfl h0
  | prof1 => exact absurd rfl h1
  | _ => rfl

theorem step_read {s : State} {rest : List Event} {bits off : Nat} (hvalid : s.params.valid = true) (hrst : s.rst = false)
    (hinbox : s.inbox = .regRead bits off :: rest) :
    step s = .next { consumed rest s with readData := readValue bits off s } := by
  rw [step_takes_event hvalid hrst hinbox, ← readValue_consumed bits off rest s]; rfl

theorem step_write {s : State} {rest : List Event} {bits off : Nat} {v : Word} (hvalid : s.params.valid = true) (hrst : s.rst = false)
    (hinbox : s.inbox = .regWrite bits off v :: rest) : step s = busWrite bits off v (consumed rest s) :=
  step_takes_event hvalid hrst hinbox

/-- Settles O46: each of the sixteen offsets is one register's, and that is the register the access reaches. -/
theorem registerReadWritesNothing : Obligations.RegisterReadWritesNothing := by
  refine ⟨fun s rest r hvalid hrst hinbox => ?_, fun s p hp => ?_, fun s rest off hvalid hrst hinbox => ?_⟩
  · rw [step_read hvalid hrst hinbox, readValue_offsetOf]
  · have hoffset : offsetOf p.2 = p.1 := by revert p; decide
    rw [← hoffset]
    exact ⟨rfl, accessed_offsetOf p.2, readValue_offsetOf p.2 s⟩
  · exact step_read hvalid hrst hinbox

/-- Settles O47: such an access reaches no register. -/
theorem refusedAccessHasNoEffect : Obligations.RefusedAccessHasNoEffect := by
  intro s rest bits off hvalid hrst hrefused
  have haccess : accessed bits off = none := accessed_refused hrefused
  refine ⟨fun hinbox => ?_, fun v hinbox => ?_⟩
  · rw [step_read hvalid hrst hinbox, readValue_refused haccess]
  · rw [step_write hvalid hrst hinbox, busWrite_refused haccess]

/-- Settles O51: a register that is neither `CMD` nor staged stores nothing. -/
theorem readOnlyRegistersIgnoreWrites : Obligations.ReadOnlyRegistersIgnoreWrites := by
  intro s rest r v hvalid hrst hinbox hr
  obtain ⟨hcmd, h0, h1⟩ : r ≠ .cmd ∧ r ≠ .prof0 ∧ r ≠ .prof1 := by simpa using hr
  refine ⟨?_, rfl, rfl⟩
  rw [step_write hvalid hrst hinbox, busWrite_offsetOf hcmd, writeRegister_of_not_staged h0 h1]

/-! ### Fields one above the other -/

/-- A field shifted to just above another one stands above it: how each layout of rules R63, R68, R69 and R72 is built. -/
theorem setWidth_or_shiftLeft {n m w k : Nat} (lo : BitVec n) (hi : BitVec m) (hk : k = n) :
    lo.setWidth w ||| hi.setWidth w <<< k = (hi ++ lo).setWidth w := by
  subst hk
  apply BitVec.eq_of_getLsbD_eq
  intro j hj
  rw [BitVec.getLsbD_or, BitVec.getLsbD_shiftLeft, BitVec.getLsbD_setWidth, BitVec.getLsbD_setWidth, BitVec.getLsbD_setWidth,
    BitVec.getLsbD_append]
  by_cases hlow : j < k
  · simp [hj, hlow]
  · have hhigh : j - k < w := by omega
    simp [hj, hlow, hhigh, BitVec.getLsbD_of_ge lo j (by omega)]

theorem setWidth_zero_append {n w : Nat} (k : Nat) (x : BitVec n) : (0#k ++ x).setWidth w = x.setWidth w := by
  apply BitVec.eq_of_toNat_eq
  simp [BitVec.toNat_append]

theorem setWidth_eq_of_toNat_eq {n w : Nat} {x : BitVec n} {y : BitVec w} (hw : n ≤ w) (h : x.toNat = y.toNat) : x.setWidth w = y := by
  apply BitVec.eq_of_toNat_eq
  rw [BitVec.toNat_setWidth_of_le hw, h]

theorem toNat_append_eq_add {n m : Nat} (hi : BitVec n) (lo : BitVec m) : (hi ++ lo).toNat = lo.toNat + 2 ^ m * hi.toNat := by
  rw [BitVec.toNat_append, ← Nat.shiftLeft_add_eq_or_of_lt lo.isLt, Nat.shiftLeft_eq]
  ring

/-- Rule R63: a word's bytes stand in it from the least significant one up. -/
theorem wordOfBytes_eq_append (b0 b1 b2 b3 : Byte) : wordOfBytes b0 b1 b2 b3 = b3 ++ b2 ++ b1 ++ b0 := by
  simp only [wordOfBytes, setWidth_or_shiftLeft]
  refine setWidth_eq_of_toNat_eq (by decide) ?_
  simp only [toNat_append_eq_add]
  ring

/-! ### The command word at `CMD` -/

theorem runCommandWord_command {v : Word} {i : Instr} (h : decode v = .command i) (s : State) : runCommandWord v s = exec i s := by
  simp only [runCommandWord, h]

theorem runCommandWord_reserved {v : Word} {why : ReservedWord} (h : decode v = .reserved why) (s : State) :
    runCommandWord v s = .next { s with cmdIgnored := true } := by
  simp only [runCommandWord, h, ignoreCommand]

theorem step_command {s : State} {rest : List Event} {v : Word} (hvalid : s.params.valid = true) (hrst : s.rst = false)
    (hinbox : s.inbox = .regWrite 32 0x00 v :: rest) : step s = runCommandWord v (consumed rest s) := by
  rw [step_write hvalid hrst hinbox, busWrite_cmd]

/-- Settles O7, by the two answers of the decoder. -/
theorem stepRunsDecodedCommand : Obligations.StepRunsDecodedCommand := by
  intro s v rest hvalid hrst hinbox
  rw [step_command hvalid hrst hinbox]
  exact ⟨fun i hdecode => runCommandWord_command hdecode _, fun why hdecode => runCommandWord_reserved hdecode _⟩

theorem decodeCommand_eq_some_iff {v : Word} {i : Instr} : decodeCommand v = some i ↔ decode v = .command i := by
  rw [decodeCommand]
  cases decode v with
  | command j => simp
  | reserved why => simp

theorem append_bytes_of_word (v : Word) :
    (v.extractLsb' 24 8 ++ v.extractLsb' 16 8 ++ v.extractLsb' 8 8 ++ v.extractLsb' 0 8 : Word) = v := by
  have hupper : v.extractLsb' 24 8 ++ v.extractLsb' 16 8 = v.extractLsb' 16 16 := BitVec.extractLsb'_append_extractLsb'_eq_extractLsb' rfl
  have hmiddle : v.extractLsb' 16 16 ++ v.extractLsb' 8 8 = v.extractLsb' 8 24 := BitVec.extractLsb'_append_extractLsb'_eq_extractLsb' rfl
  have hwhole : v.extractLsb' 8 24 ++ v.extractLsb' 0 8 = v.extractLsb' 0 32 := BitVec.extractLsb'_append_extractLsb'_eq_extractLsb' rfl
  rw [hupper, hmiddle, hwhole, BitVec.extractLsb'_eq_self]

theorem decodeBytes_bytesOfWord (v : Word) : decodeBytes (bytesOfWord v) = decodeCommand v := by
  rw [bytesOfWord, decodeBytes, wordOfBytes_eq_append, append_bytes_of_word]

/-- Rule R100: a row of the table that is a command is one word that decodes to it. -/
theorem decode_of_decodeTableWord {nbits w : Nat} {i : Instr} (h : decodeTableWord nbits w = some i) :
    decode (BitVec.ofNat 32 (w % 2 ^ nbits)) = .command i := by
  rw [decodeTableWord] at h
  split_ifs at h with hfits
  rwa [decodeBytes_bytesOfWord, decodeCommand_eq_some_iff] at h

/-- Settles O8: the word placed at the head of the pending steps is a write to `CMD`, and the step that runs it takes it away. -/
theorem fetchedWordRuns : Obligations.FetchedWordRuns := by
  intro s nbits w i hvalid hdecode
  have hstep : step (s.withFetchWord nbits w) = runCommandWord _ (consumed s.inbox (s.withFetchWord nbits w)) :=
    step_command hvalid rfl rfl
  rw [hstep, runCommandWord_command (decode_of_decodeTableWord hdecode)]; rfl

/-! ### The layouts -/

/-- `msm_state` as `STATUS` holds it (rules R28 and R68). -/
def msmField : MsmState → BitVec 2
  | .safe => 0#2
  | .standby => 1#2
  | .running => 2#2

/-- `pin_state` as `STATUS` holds it (rules R33 and R68). -/
def pinField : PinState → BitVec 2
  | .hiZ => 0#2
  | .drivenLow => 1#2
  | .activeWaveform => 2#2

theorem msmCode_eq (m : MsmState) : msmCode m = (msmField m).setWidth 32 := by cases m <;> rfl

theorem pinCode_eq (p : PinState) : pinCode p = (pinField p).setWidth 32 := by cases p <;> rfl

theorem bitAt_eq (n : Nat) (b : Bool) : bitAt n b = (BitVec.ofBool b).setWidth 32 <<< n := rfl

theorem getLsbD_bitAt (n k : Nat) (b : Bool) : (bitAt n b).getLsbD k = (decide (k < 32) && decide (k = n) && b) := by
  rw [bitAt, BitVec.getLsbD_shiftLeft, BitVec.getLsbD_setWidth, BitVec.getLsbD_ofBool]
  grind

/-- `STATUS` of rule R68 from its highest field down. -/
theorem statusWord_eq_append (s : State) : statusWord s = 0#16 ++ (BitVec.ofBool s.cmdIgnored ++ BitVec.ofBool s.chRunning
    ++ BitVec.ofBool s.lastRaw ++ BitVec.ofBool s.dbInit ++ BitVec.ofBool s.expiryArmed ++ BitVec.ofBool s.tickArmed
    ++ BitVec.ofBool s.timeoutExpired ++ BitVec.ofBool s.limitEnabled ++ BitVec.ofBool s.waveformPhase ++ BitVec.ofBool s.inputLevel
    ++ BitVec.ofBool s.outputLevel ++ BitVec.ofBool s.armed ++ pinField s.pinState ++ msmField s.msmState) := by
  simp only [statusWord, msmCode_eq, pinCode_eq, bitAt_eq, setWidth_or_shiftLeft]
  refine setWidth_eq_of_toNat_eq (by decide) ?_
  simp only [toNat_append_eq_add, BitVec.toNat_ofNat]
  ring

/-- The layout of `PROF0` and `ACT_PROF0` (rules R69 and R80) from its highest field down. -/
theorem prof0Word_eq_append (q : Profile) : prof0Word q = q.debounceMs ++ q.dutyPercent ++ 0#5 ++ BitVec.ofBool q.bootAllOff
    ++ BitVec.ofBool q.interlockEnabled ++ BitVec.ofBool q.activeHigh := by
  simp only [prof0Word, bitAt_eq, BitVec.shiftLeft_zero, setWidth_or_shiftLeft]
  rw [← setWidth_zero_append 5]
  simp only [setWidth_or_shiftLeft]
  refine setWidth_eq_of_toNat_eq (by decide) ?_
  simp only [toNat_append_eq_add]
  ring

theorem setWidth_half_eq_append (x : Half) : x.setWidth 32 = 0#16 ++ x := BitVec.setWidth_eq_append (by decide)

theorem setWidth_byte_eq_append (x : Byte) : x.setWidth 32 = 0#24 ++ x := BitVec.setWidth_eq_append (by decide)

theorem statusWord_msmField (s : State) : (statusWord s).extractLsb' 0 2 = msmField s.msmState := by
  rw [statusWord_eq_append, BitVec.extractLsb'_append_eq_of_add_le (by decide), BitVec.extractLsb'_append_eq_right]

theorem statusWord_pinField (s : State) : (statusWord s).extractLsb' 2 2 = pinField s.pinState := by
  rw [statusWord_eq_append, BitVec.extractLsb'_append_eq_of_add_le (by decide), BitVec.extractLsb'_append_eq_of_le le_rfl,
    BitVec.extractLsb'_append_eq_right]

theorem statusWord_bits (s : State) :
    (statusWord s).getLsbD 4 = s.armed ∧ (statusWord s).getLsbD 5 = s.outputLevel ∧ (statusWord s).getLsbD 6 = s.inputLevel ∧
    (statusWord s).getLsbD 7 = s.waveformPhase ∧ (statusWord s).getLsbD 8 = s.limitEnabled ∧
    (statusWord s).getLsbD 9 = s.timeoutExpired ∧ (statusWord s).getLsbD 10 = s.tickArmed ∧
    (statusWord s).getLsbD 11 = s.expiryArmed ∧ (statusWord s).getLsbD 12 = s.dbInit ∧ (statusWord s).getLsbD 13 = s.lastRaw ∧
    (statusWord s).getLsbD 14 = s.chRunning ∧ (statusWord s).getLsbD 15 = s.cmdIgnored := by
  simp only [statusWord_eq_append, BitVec.getLsbD_append, BitVec.getLsbD_ofBool]
  simp

/-- Rule R68: bits 31:16 of `STATUS` are reserved. -/
theorem statusWord_reserved (s : State) : (statusWord s).extractLsb' 16 16 = 0#16 := by
  rw [statusWord_eq_append, BitVec.extractLsb'_append_eq_left]

/-- Settles O48: each offset is its register's, and each register is its fields one above the other. -/
theorem statusWordFields : Obligations.StatusWordFields := by
  intro s
  have hstatus : readValue 32 0x04 s = statusWord s := readValue_offsetOf .status s
  obtain ⟨h4, h5, h6, h7, h8, h9, h10, h11, h12, h13, h14, h15⟩ := statusWord_bits s
  rw [hstatus]
  refine ⟨?_, ?_, h4, h5, h6, h7, h8, h9, h10, h11, h12, h13, h14, h15, statusWord_reserved s,
    (readValue_offsetOf .prof0 s).trans (prof0Word_eq_append s.staged),
    (readValue_offsetOf .prof1 s).trans (setWidth_half_eq_append _), (readValue_offsetOf .curFreq s).trans (setWidth_half_eq_append _),
    (readValue_offsetOf .activeMode s).trans (setWidth_half_eq_append _), readValue_offsetOf .remainingMs s, readValue_offsetOf .nowMs s,
    readValue_offsetOf .nextToggleMs s, readValue_offsetOf .lastChangeMs s,
    (readValue_offsetOf .indHz s).trans (setWidth_half_eq_append _), readValue_offsetOf .frameLo s,
    (readValue_offsetOf .frameHi s).trans (setWidth_byte_eq_append _),
    (readValue_offsetOf .actProf0 s).trans (prof0Word_eq_append s.profile),
    (readValue_offsetOf .actProf1 s).trans (setWidth_half_eq_append _), readValue_offsetOf .cmd s, readValue_offsetOf .reserved s⟩
  · rw [statusWord_msmField]; cases s.msmState <;> rfl
  · rw [statusWord_pinField]; cases s.pinState <;> rfl

/-! ### The staged and the active profile -/

theorem registerValue_prof0 (s : State) : registerValue .prof0 s = prof0Word s.staged := rfl

theorem registerValue_prof1 (s : State) : registerValue .prof1 s = prof1Word s.staged := rfl

theorem registerValue_actProf0 (s : State) : registerValue .actProf0 s = prof0Word s.profile := rfl

theorem registerValue_actProf1 (s : State) : registerValue .actProf1 s = prof1Word s.profile := rfl

theorem prof0Word_writeProf0 (v : Word) (q : Profile) : prof0Word (writeProf0 v q) = v &&& 0xFFFFFF07#32 := by
  apply BitVec.eq_of_getLsbD_eq
  intro k hk
  simp only [prof0Word, writeProf0, BitVec.getLsbD_or, getLsbD_bitAt, BitVec.getLsbD_shiftLeft, BitVec.getLsbD_setWidth,
    BitVec.getLsbD_extractLsb', BitVec.getLsbD_and]
  interval_cases k <;> simp

theorem prof1Word_writeProf1 (v : Word) (q : Profile) : prof1Word (writeProf1 v q) = v &&& 0x0000FFFF#32 := by
  have hmask : v.toNat &&& 0xFFFF = v.toNat % 0x10000 := Nat.and_two_pow_sub_one_eq_mod _ 16
  have hfits : v.toNat % 0x10000 % 0x100000000 = v.toNat % 0x10000 := Nat.mod_eq_of_lt (by omega)
  apply BitVec.eq_of_toNat_eq
  simp [prof1Word, writeProf1, hmask, hfits]

theorem prof1Word_writeProf0 (v : Word) (q : Profile) : prof1Word (writeProf0 v q) = prof1Word q := rfl

theorem prof0Word_writeProf1 (v : Word) (q : Profile) : prof0Word (writeProf1 v q) = prof0Word q := rfl

theorem prof0Word_latchedProfile (p : Params) (q : Profile) : prof0Word (latchedProfile p q) = prof0Word q := rfl

theorem prof1Word_toNat (q : Profile) : (prof1Word q).toNat = q.frequencyHz.toNat := by
  have hfits := q.frequencyHz.isLt
  rw [prof1Word, BitVec.toNat_setWidth, Nat.mod_eq_of_lt (by omega)]

theorem prof1Word_latchedProfile_toNat {p : Params} (h : p.fMin.toNat ≤ p.fMax.toNat) (q : Profile) :
    (prof1Word (latchedProfile p q)).toNat = max p.fMin.toNat (min p.fMax.toNat (prof1Word q).toNat) := by
  rw [prof1Word_toNat, prof1Word_toNat, latchedProfile, clampFreq_toNat p q.frequencyHz h]

/-- Rule R194: in `SAFE` and elsewhere alike the staged profile is latched and kept. -/
theorem applyProfile_latches {s t : State} (h : CommandCase s .applyProfile t) :
    t.profile = latchedProfile s.params s.staged ∧ t.staged = s.staged := by
  cases h with
  | applyProfileSafe hsafe => simp
  | applyProfileStandby hsafe => simp [enterStandby]

/-- Settles O49: what is written, what it reads back as, and what `APPLY_PROFILE` makes of it. -/
theorem profileRegistersStoreAndLatch : Obligations.ProfileRegistersStoreAndLatch := by
  intro s rest v hvalid hrst
  refine ⟨fun hinbox => ?_, fun hinbox => ?_, ?_⟩
  · have hstep : step s = .next (writeRegister .prof0 v (consumed rest s)) := step_write hvalid hrst hinbox
    exact ⟨_, hstep, rfl, prof0Word_writeProf0 v s.staged, prof1Word_writeProf0 v s.staged⟩
  · have hstep : step s = .next (writeRegister .prof1 v (consumed rest s)) := step_write hvalid hrst hinbox
    exact ⟨_, hstep, rfl, prof1Word_writeProf1 v s.staged, prof0Word_writeProf1 v s.staged⟩
  · obtain ⟨t, hcase⟩ := exists_commandCase .applyProfile s
    obtain ⟨hprofile, hstaged⟩ := applyProfile_latches hcase
    rw [registerValue_prof0, registerValue_prof1]
    refine ⟨t, hcase.exec_eq, ?_, ?_, ?_, ?_⟩
    · rw [registerValue_actProf0, hprofile, prof0Word_latchedProfile]
    · rw [registerValue_actProf1, hprofile, prof1Word_latchedProfile_toNat (fMin_le_fMax_of_valid hvalid)]
    · rw [registerValue_prof0, hstaged]
    · rw [registerValue_prof1, hstaged]

/-! ### The frame -/

theorem frameLoWord_toNat (f : Frame) : (frameLoWord f).toNat =
    f.id.toNat + 2 ^ 8 * f.cmd.toNat + 2 ^ 16 * f.payloadLsb.toNat + 2 ^ 24 * f.payloadMsb.toNat := by
  rw [frameLoWord, toNat_append_eq_add, toNat_append_eq_add, toNat_append_eq_add]
  ring

theorem frameHiWord_eq (f : Frame) : frameHiWord f = BitVec.ofNat 32 f.checksum.toNat := (BitVec.ofNat_toNat 32 f.checksum).symm

/-- Rule R63: byte `j` of a register stands `j` above its offset. -/
theorem byteAt_offsetOf_add (r : Reg) {k j : Nat} (hk : k = offsetOf r + j) (hj : j < 4) (s : State) :
    byteAt k s = (registerValue r s).extractLsb' (8 * j) 8 := by
  subst hk
  have haligned : offsetOf r % 4 = 0 := by cases r <;> rfl
  have hregister : (offsetOf r + j) / 4 * 4 = offsetOf r := by omega
  have hbyte : (offsetOf r + j) % 4 = j := by omega
  simp only [byteAt, hregister, accessed_offsetOf, hbyte]

theorem frameLoWord_bytes (f : Frame) :
    (frameLoWord f).extractLsb' 0 8 = f.id ∧ (frameLoWord f).extractLsb' 8 8 = f.cmd ∧
    (frameLoWord f).extractLsb' 16 8 = f.payloadLsb ∧ (frameLoWord f).extractLsb' 24 8 = f.payloadMsb := by
  rw [frameLoWord]
  refine ⟨BitVec.extractLsb'_append_eq_right, ?_, ?_, ?_⟩
  · rw [BitVec.extractLsb'_append_eq_of_le (by decide), BitVec.extractLsb'_append_eq_right]
  · rw [BitVec.extractLsb'_append_eq_of_le (by decide), BitVec.extractLsb'_append_eq_of_le (by decide),
      BitVec.extractLsb'_append_eq_right]
  · rw [BitVec.extractLsb'_append_eq_of_le (by decide), BitVec.extractLsb'_append_eq_of_le (by decide),
      BitVec.extractLsb'_append_eq_left]

theorem frameHiWord_byte (f : Frame) : (frameHiWord f).extractLsb' 0 8 = f.checksum := by
  rw [frameHiWord, setWidth_byte_eq_append, BitVec.extractLsb'_append_eq_right]

/-- Settles O50: the sum is the word's value, and each byte of the word is one byte of the frame. -/
theorem frameRegistersPackLittleEndian : Obligations.FrameRegistersPackLittleEndian := by
  intro s
  obtain ⟨hid, hcmd, hlsb, hmsb⟩ := frameLoWord_bytes s.frameBuf
  refine ⟨?_, frameHiWord_eq s.frameBuf, ?_, ?_, ?_, ?_, ?_⟩
  · rw [← frameLoWord_toNat, BitVec.ofNat_toNat, BitVec.setWidth_eq]; rfl
  · exact (byteAt_offsetOf_add .frameLo (j := 0) rfl (by decide) s).trans hid
  · exact (byteAt_offsetOf_add .frameLo (j := 1) rfl (by decide) s).trans hcmd
  · exact (byteAt_offsetOf_add .frameLo (j := 2) rfl (by decide) s).trans hlsb
  · exact (byteAt_offsetOf_add .frameLo (j := 3) rfl (by decide) s).trans hmsb
  · exact (byteAt_offsetOf_add .frameHi (j := 0) rfl (by decide) s).trans (frameHiWord_byte s.frameBuf)

/-! ### The timer context and time -/

/-- `s` with the model's own bookkeeping of a step, what is pending and what is drawn, as in `t`. -/
def bookedAs (t s : State) : State := { s with inbox := t.inbox, draws := t.draws }

/-- What a turn of the timer context or of time writes (rules R74, R232, R233 and R235), besides the model's own bookkeeping. -/
inductive TimerTurn (s t : State) : Prop where
  | tickFires (ht : t = bookedAs t (tickFire s))
  | expiryFires (ht : t = bookedAs t (expiryFire s))
  | timeAdvances (ht : t = bookedAs t (timeAdvance s))
  | nothing (ht : t = bookedAs t s)

theorem timerTurn_timePasses (rest pending : List Event) (tickFirst : Bool) (s : State) :
    TimerTurn s { timePasses tickFirst (consumed rest s) with inbox := pending } := by
  obtain ⟨-, ht⟩ | ⟨-, ht⟩ | ⟨-, -, ht⟩ := timePasses_cases tickFirst (consumed rest s)
  · exact .tickFires (by rw [ht]; rfl)
  · exact .expiryFires (by rw [ht]; rfl)
  · exact .timeAdvances (by rw [ht]; rfl)

theorem timerTurn_tickTurn (rest : List Event) (s : State) : TimerTurn s (tickTurn (consumed rest s)) := by
  rw [tickTurn]
  split_ifs
  · exact .tickFires rfl
  · exact .nothing rfl

theorem timerTurn_expiryTurn (rest : List Event) (s : State) : TimerTurn s (expiryTurn (consumed rest s)) := by
  rw [expiryTurn]
  split_ifs
  · exact .expiryFires rfl
  · exact .nothing rfl

theorem timerTurn_pulse (rest : List Event) (tickFirst : Bool) (s : State) : TimerTurn s (pulse tickFirst (consumed rest s)) := by
  rw [pulse]
  split_ifs with hdue
  · obtain ⟨-, ht⟩ | ⟨-, ht⟩ := fireDueLine_cases tickFirst hdue
    · exact .tickFires (by rw [ht]; rfl)
    · exact .expiryFires (by rw [ht]; rfl)
  · exact .timeAdvances rfl

theorem timerTurn_untilTime (rest : List Event) (u : Word) (tickFirst : Bool) (s : State) :
    TimerTurn s (untilTime u tickFirst (consumed rest s)) := by
  obtain ⟨-, -, ht⟩ | ⟨-, ht⟩ := untilTime_cases u tickFirst (consumed rest s)
  · exact .nothing (by rw [ht]; rfl)
  · rw [ht]; exact timerTurn_timePasses rest _ tickFirst s

/-- A pending step of the timer context or of time (rule R74). -/
def IsTimerEvent (e : Event) : Prop := e = .tickFire ∨ e = .expiryFire ∨ (∃ o, e = .msPulse o) ∨ (∃ u o, e = .runUntil u o)

theorem timerTurn_takeEvent {s t : State} {e : Event} {rest : List Event} (he : IsTimerEvent e)
    (h : takeEvent e (consumed rest s) = .next t) : TimerTurn s t := by
  obtain rfl | rfl | ⟨o, rfl⟩ | ⟨u, o, rfl⟩ := he <;> obtain rfl := Host.Outcome.next.inj h
  · exact timerTurn_tickTurn rest s
  · exact timerTurn_expiryTurn rest s
  · exact timerTurn_pulse rest o s
  · exact timerTurn_untilTime rest u o s

theorem takeEventInReset_timer {e : Event} (he : IsTimerEvent e) (s : State) : takeEventInReset e s = s := by
  obtain rfl | rfl | ⟨o, rfl⟩ | ⟨u, o, rfl⟩ := he <;> rfl

theorem timerTurn_of_step {s t : State} (h : step s = .next t)
    (hagent : s.inbox = [] ∨ ∃ e rest, s.inbox = e :: rest ∧ IsTimerEvent e) : TimerTurn s t := by
  have timer_of_head {e : Event} {rest : List Event} (hinbox : s.inbox = e :: rest) : IsTimerEvent e := by
    obtain hnil | ⟨e', rest', hcons, he⟩ := hagent
    · simp [hinbox] at hnil
    · rw [hinbox, List.cons.injEq] at hcons
      exact hcons.1 ▸ he
  obtain ⟨-, -, rfl⟩ | ⟨-, -, rfl⟩ | ⟨e, rest, hinbox, -, rfl⟩ | ⟨e, rest, hinbox, -, htake⟩ := step_cases h
  · exact .nothing rfl
  · exact timerTurn_timePasses s.inbox _ _ s
  · rw [takeEventInReset_timer (timer_of_head hinbox)]; exact .nothing rfl
  · exact timerTurn_takeEvent (timer_of_head hinbox) htake

/-- Settles O29: a firing of the tick line, a firing of the expiry line and an advance of time each write their own elements. -/
theorem timerContextWritesOnlyScalars : Obligations.TimerContextWritesOnlyScalars := by
  intro s t hstep hagent
  cases timerTurn_of_step hstep hagent with
  | tickFires ht => rw [ht]; exact ⟨rfl, fun hnow => absurd rfl hnow, fun hflag => absurd rfl hflag⟩
  | expiryFires ht => rw [ht]; exact ⟨rfl, fun hnow => absurd rfl hnow, fun _ => ⟨rfl, rfl, rfl⟩⟩
  | timeAdvances ht => rw [ht]; exact ⟨rfl, fun _ => ⟨rfl, rfl⟩, fun hflag => absurd rfl hflag⟩
  | nothing ht => rw [ht]; exact ⟨rfl, fun hnow => absurd rfl hnow, fun hflag => absurd rfl hflag⟩

end Machine
end Sys2Proof

/-! The command word (`30_encoding.md`): a command is a word with its three fields (rules R91 to R94), the rows of the opcode map and the
words that match none (rules R93 and R98), what a command word reports (rule R99), and two statements of the assembler: `POLL`
(rules R102 and R197) and `AT` (rules R101 and R236). -/
namespace Sys2Proof
namespace Machine

open Laws.EncodedFields (opcodeOf operandOf)

/-! ### The three fields of a command's word -/

/-- Rule R91: two words with the same fields are the same word. -/
theorem word_eq_iff_fields {v w : Word} :
    v = w ↔ opcodeField v = opcodeField w ∧ zeroField v = zeroField w ∧ operandField v = operandField w := by
  refine ⟨by rintro rfl; exact ⟨rfl, rfl, rfl⟩, fun ⟨hopcode, hzero, hoperand⟩ => ?_⟩
  apply BitVec.eq_of_toNat_eq
  rw [toNat_eq_fields v, toNat_eq_fields w, hopcode, hzero, hoperand]

theorem encode_fields (i : Instr) : Laws.EncodedFields.Statement i := by
  cases i with
  | powerOn => exact Laws.EncodedFields.powerOn
  | powerOff => exact Laws.EncodedFields.powerOff
  | applyMode idx => exact Laws.EncodedFields.applyMode idx
  | setLimit b => exact Laws.EncodedFields.setLimit b
  | applyProfile => exact Laws.EncodedFields.applyProfile
  | sample => exact Laws.EncodedFields.sample
  | tick => exact Laws.EncodedFields.tick
  | drainExpiry => exact Laws.EncodedFields.drainExpiry
  | buildSetSpeed rpm => exact Laws.EncodedFields.buildSetSpeed rpm

theorem limitOperand_eq_command {operand : Half} {i : Instr} :
    limitOperand operand = .command i ↔ ∃ b, i = .setLimit b ∧ operand = operandOf (.setLimit b) := by
  rw [limitOperand]
  split_ifs with hzero hone
  · simp [hzero, operandOf, eq_comm]
  · simp [hone, operandOf, eq_comm]
  · simp [hzero, hone, operandOf]

/-- Rules R92 to R94: a command is what its opcode says, with `zero` clear and its operand in the low bits. -/
theorem decode_eq_command_iff {v : Word} {i : Instr} :
    decode v = .command i ↔ opcodeField v = opcodeOf i ∧ zeroField v = 0x00#8 ∧ operandField v = operandOf i := by
  constructor
  · intro h
    have hplain {j : Instr} (hopcode : opcodeField v = opcodeOf j) (hj : operandOf j = 0#16)
        (hcommand : withoutOperand (operandField v) j = .command i) : opcodeField v = opcodeOf i ∧ operandField v = operandOf i := by
      obtain ⟨hoperand, rfl⟩ := withoutOperand_eq_command.1 hcommand
      exact ⟨hopcode, hoperand.trans hj.symm⟩
    have hzero : zeroField v = 0x00#8 := by
      by_contra hne
      simp [decode, hne] at h
    rw [and_left_comm]
    refine ⟨hzero, ?_⟩
    rw [decode, if_neg (not_not.2 hzero)] at h
    split_ifs at h with h1 h2 h3 h4 h5 h6 h7 h8 h9
    · exact hplain (j := .powerOn) h1 rfl h
    · exact hplain (j := .powerOff) h2 rfl h
    · obtain rfl := Decoded.command.inj h; exact ⟨h3, rfl⟩
    · obtain ⟨b, rfl, hoperand⟩ := limitOperand_eq_command.1 h; exact ⟨h4, hoperand⟩
    · exact hplain (j := .applyProfile) h5 rfl h
    · exact hplain (j := .sample) h6 rfl h
    · exact hplain (j := .tick) h7 rfl h
    · exact hplain (j := .drainExpiry) h8 rfl h
    · obtain rfl := Decoded.command.inj h; exact ⟨h9, rfl⟩
  · rintro ⟨hopcode, hzero, hoperand⟩
    cases i with
    | setLimit b => simp [decode, hopcode, hzero, opcodeOf, limitOperand_eq_command, hoperand]
    | powerOn | powerOff | applyMode | applyProfile | sample | tick | drainExpiry | buildSetSpeed =>
      simp [decode, hopcode, hzero, hoperand, opcodeOf, operandOf, withoutOperand]

/-- Rules R92 and R93: the words that decode to a command are the one that encodes it. -/
theorem decode_eq_command_iff_encode {v : Word} {i : Instr} : decode v = .command i ↔ encode i = v := by
  obtain ⟨hopcode, hzero, hoperand⟩ := encode_fields i
  rw [decode_eq_command_iff, @eq_comm _ (encode i), word_eq_iff_fields, hopcode, hzero, hoperand]

theorem decode_encode (i : Instr) : decode (encode i) = .command i := decode_eq_command_iff_encode.2 rfl

theorem decodeTableWord_toNat (v : Word) : decodeTableWord 32 v.toNat = decodeCommand v := by
  have hmod : v.toNat % 2 ^ 32 = v.toNat := Nat.mod_eq_of_lt v.isLt
  rw [decodeTableWord, hmod, if_pos v.isLt, BitVec.ofNat_toNat, BitVec.setWidth_eq, decodeBytes_bytesOfWord]

/-- Settles O1: the word of a command has the command's fields, and its bytes and its row stand for that word. -/
theorem encodedCommandDecodesBack : Obligations.EncodedCommandDecodesBack := by
  intro i
  have hcommand : decodeCommand (encode i) = some i := decodeCommand_eq_some_iff.2 (decode_encode i)
  exact ⟨decode_encode i, (decodeBytes_bytesOfWord _).trans hcommand, (decodeTableWord_toNat _).trans hcommand⟩

/-- Settles O2: the fields of a word that decodes to a command are those of the command's encoding. -/
theorem commandWordIsItsEncoding : Obligations.CommandWordIsItsEncoding := fun _ _ => decode_eq_command_iff_encode.1

/-! ### The operands -/

/-- Rule R94: bits 15:1 of the operand of `SET_LIMIT` are 0 and bit 0 is its argument. -/
theorem operandField_eq_setLimit_iff {v : Word} {b : Bool} :
    operandField v = operandOf (.setLimit b) ↔ v.extractLsb' 1 15 = 0#15 ∧ v.getLsbD 0 = b := by
  have hbit : v.getLsbD 0 = decide (v.toNat % 2 = 1) := by
    rw [BitVec.getLsbD, Nat.testBit_zero]
  rw [hbit, ← BitVec.toNat_inj, ← BitVec.toNat_inj, operandField, BitVec.extractLsb'_toNat, BitVec.extractLsb'_toNat,
    Nat.shiftRight_eq_div_pow, Nat.shiftRight_eq_div_pow]
  cases b with
  | false => simp [operandOf]; omega
  | true => simp [operandOf]; omega

/-- Rule R92: the decoder answers a command or `RESERVED`. -/
theorem decode_reserved_iff {v : Word} : (∃ why, decode v = .reserved why) ↔ ∀ i, decode v ≠ .command i := by
  cases decode v with
  | command i => simp
  | reserved why => simp

theorem eq_setLimit_of_opcodeOf {i : Instr} (h : opcodeOf i = 0x04#8) : ∃ b, i = .setLimit b := by
  cases i with
  | setLimit b => exact ⟨b, rfl⟩
  | _ => exact absurd h (by simp [opcodeOf])

/-- Settles O5, by the fields of the word: a word with opcode `0x04` can be no command but `SET_LIMIT`. -/
theorem operandsAreLowBits : Obligations.OperandsAreLowBits := by
  intro v hzero
  refine ⟨fun hopcode => decode_eq_command_iff.2 ⟨hopcode, hzero, rfl⟩, fun hopcode hclear => ?_, fun hopcode hset => ?_,
    fun hopcode => decode_eq_command_iff.2 ⟨hopcode, hzero, rfl⟩⟩
  · exact decode_eq_command_iff.2 ⟨hopcode, hzero, operandField_eq_setLimit_iff.2 ⟨hclear, rfl⟩⟩
  · refine decode_reserved_iff.2 fun i hdecode => ?_
    obtain ⟨hi, -, hoperand⟩ := decode_eq_command_iff.1 hdecode
    obtain ⟨b, rfl⟩ := eq_setLimit_of_opcodeOf (hi.symm.trans hopcode)
    exact hset (operandField_eq_setLimit_iff.1 hoperand).1

/-! ### The rows of the opcode map -/

/-- The bits of the operand field that a command's row compares (rule R93): the ones that are not its argument. -/
def operandMask : Instr → Half
  | .applyMode _ => 0x0000#16
  | .setLimit _ => 0xFFFE#16
  | .buildSetSpeed _ => 0x0000#16
  | _ => 0xFFFF#16

/-- The row of a command in the opcode map (rule R93), by the fields of its word. -/
def rowOf (i : Instr) : OpcodeRow where
  mnemonic := mnemonicOf i
  pattern := opcodeOf i ++ 0x00#8 ++ 0x0000#16
  mask := 0xFF#8 ++ 0xFF#8 ++ operandMask i

/-- Rule R93: the opcode map has one row for each mnemonic. -/
theorem opcodeTable_eq_map_rowOf : opcodeTable = ([.powerOn, .powerOff, .applyMode 0#16, .setLimit false, .applyProfile, .sample, .tick,
    .drainExpiry, .buildSetSpeed 0#16] : List Instr).map rowOf := by decide

theorem exists_rowOf_of_mem {r : OpcodeRow} (hr : r ∈ opcodeTable) : ∃ i, rowOf i = r := by
  rw [opcodeTable_eq_map_rowOf, List.mem_map] at hr
  obtain ⟨i, -, hi⟩ := hr
  exact ⟨i, hi⟩

theorem rowOf_mem (i : Instr) : rowOf i ∈ opcodeTable := by
  rw [opcodeTable_eq_map_rowOf]
  cases i with
  | applyMode idx => exact List.mem_map.2 ⟨.applyMode 0#16, by decide, rfl⟩
  | setLimit b => exact List.mem_map.2 ⟨.setLimit false, by decide, rfl⟩
  | buildSetSpeed rpm => exact List.mem_map.2 ⟨.buildSetSpeed 0#16, by decide, rfl⟩
  | powerOn | powerOff | applyProfile | sample | tick | drainExpiry => exact List.mem_map_of_mem (by decide)

theorem eq_of_mnemonic_eq : ∀ r ∈ opcodeTable, ∀ r' ∈ opcodeTable, r.mnemonic = r'.mnemonic → r = r' := by decide

theorem rowOf_eq_iff {i : Instr} {r : OpcodeRow} (hr : r ∈ opcodeTable) : rowOf i = r ↔ mnemonicOf i = r.mnemonic :=
  ⟨fun h => h ▸ rfl, fun h => eq_of_mnemonic_eq _ (rowOf_mem i) r hr h⟩

/-- Rule R91: the fields of a word put together from its three fields. -/
theorem fields_append (o z : Byte) (p : Half) :
    opcodeField (o ++ z ++ p) = o ∧ zeroField (o ++ z ++ p) = z ∧ operandField (o ++ z ++ p) = p := by
  have hword : (o ++ z ++ p).toNat = p.toNat + 2 ^ 16 * (z.toNat + 2 ^ 8 * o.toNat) := by
    rw [toNat_append_eq_add, toNat_append_eq_add]
  simp only [opcodeField, zeroField, operandField, ← BitVec.toNat_inj, BitVec.extractLsb'_toNat, hword, Nat.shiftRight_eq_div_pow]
  omega

theorem opcodeField_and (v w : Word) : opcodeField (v &&& w) = opcodeField v &&& opcodeField w := BitVec.extractLsb'_and

theorem zeroField_and (v w : Word) : zeroField (v &&& w) = zeroField v &&& zeroField w := BitVec.extractLsb'_and

theorem operandField_and (v w : Word) : operandField (v &&& w) = operandField v &&& operandField w := BitVec.extractLsb'_and

/-- Rule R93: a row compares the opcode, the zero field and the operand bits of its mask. -/
theorem matches_rowOf_iff (v : Word) (i : Instr) : v &&& (rowOf i).mask = (rowOf i).pattern ↔
    opcodeField v = opcodeOf i ∧ zeroField v = 0x00#8 ∧ operandField v &&& operandMask i = 0x0000#16 := by
  obtain ⟨hmaskOpcode, hmaskZero, hmaskOperand⟩ := fields_append 0xFF#8 0xFF#8 (operandMask i)
  obtain ⟨hopcode, hzero, hoperand⟩ := fields_append (opcodeOf i) 0x00#8 0x0000#16
  have hall (x : Byte) : x &&& 0xFF#8 = x := BitVec.and_allOnes
  rw [word_eq_iff_fields, rowOf, hopcode, hzero, hoperand, opcodeField_and, zeroField_and, operandField_and, hmaskOpcode, hmaskZero,
    hmaskOperand, hall, hall]

theorem and_limitMask_eq_zero_iff (v : Word) : operandField v &&& 0xFFFE#16 = 0x0000#16 ↔ v.extractLsb' 1 15 = 0#15 := by
  have happend : operandField v &&& 0xFFFE#16 = v.extractLsb' 1 15 ++ 0#1 := by
    apply BitVec.eq_of_getLsbD_eq
    intro k hk
    rw [BitVec.getLsbD_and, BitVec.getLsbD_append, operandField, BitVec.getLsbD_extractLsb', BitVec.getLsbD_extractLsb']
    interval_cases k <;> simp
  rw [happend, ← BitVec.toNat_inj, ← BitVec.toNat_inj, toNat_append_eq_add]
  simp

/-- Rule R93: a word matches a row when it decodes to a command of that row. -/
theorem matches_iff_exists_command {v : Word} {r : OpcodeRow} (hr : r ∈ opcodeTable) :
    v &&& r.mask = r.pattern ↔ ∃ i, decode v = .command i ∧ rowOf i = r := by
  constructor
  · obtain ⟨i, rfl⟩ := exists_rowOf_of_mem hr
    rw [matches_rowOf_iff]
    rintro ⟨hopcode, hzero, hoperand⟩
    cases i with
    | applyMode idx => exact ⟨.applyMode (operandField v), decode_eq_command_iff.2 ⟨hopcode, hzero, rfl⟩, rfl⟩
    | buildSetSpeed rpm => exact ⟨.buildSetSpeed (operandField v), decode_eq_command_iff.2 ⟨hopcode, hzero, rfl⟩, rfl⟩
    | setLimit b =>
      have hclear := (and_limitMask_eq_zero_iff v).1 hoperand
      exact ⟨.setLimit (v.getLsbD 0), decode_eq_command_iff.2 ⟨hopcode, hzero, operandField_eq_setLimit_iff.2 ⟨hclear, rfl⟩⟩, rfl⟩
    | powerOn | powerOff | applyProfile | sample | tick | drainExpiry =>
      exact ⟨_, decode_eq_command_iff.2 ⟨hopcode, hzero, BitVec.and_allOnes.symm.trans hoperand⟩, rfl⟩
  · rintro ⟨i, hdecode, rfl⟩
    obtain ⟨hopcode, hzero, hoperand⟩ := decode_eq_command_iff.1 hdecode
    refine (matches_rowOf_iff v i).2 ⟨hopcode, hzero, ?_⟩
    rw [hoperand]
    cases i with
    | setLimit b => cases b <;> rfl
    | applyMode | buildSetSpeed => exact BitVec.and_zero
    | powerOn | powerOff | applyProfile | sample | tick | drainExpiry => rfl

/-- Rule R92: at most one row matches. -/
theorem row_unique {v : Word} {r r' : OpcodeRow} (hr : r ∈ opcodeTable) (hr' : r' ∈ opcodeTable) (h : v &&& r.mask = r.pattern)
    (h' : v &&& r'.mask = r'.pattern) : r = r' := by
  obtain ⟨i, hi, rfl⟩ := (matches_iff_exists_command hr).1 h
  obtain ⟨j, hj, rfl⟩ := (matches_iff_exists_command hr').1 h'
  rw [Decoded.command.inj (hi.symm.trans hj)]

/-- Rule R98: the reserved words match no row. -/
theorem decode_reserved_iff_no_row {v : Word} : (∃ why, decode v = .reserved why) ↔ ∀ r ∈ opcodeTable, v &&& r.mask ≠ r.pattern := by
  rw [decode_reserved_iff]
  constructor
  · intro hnone r hr hmatch
    obtain ⟨i, hdecode, -⟩ := (matches_iff_exists_command hr).1 hmatch
    exact hnone i hdecode
  · intro hnone i hdecode
    exact hnone _ (rowOf_mem i) ((matches_iff_exists_command (rowOf_mem i)).2 ⟨i, hdecode, rfl⟩)

/-- Settles O3: a row is matched by the words that decode to a command of it, and a command's operand field holds its argument. -/
theorem decodeFollowsOpcodeMap : Obligations.DecodeFollowsOpcodeMap := by
  intro v
  refine ⟨fun r hr => ?_, fun r hr r' hr' => row_unique hr hr', decode_reserved_iff_no_row.2, fun idx hdecode => ?_, fun b hdecode => ?_,
    fun rpm hdecode => ?_, fun i s hdecode => runCommandWord_command hdecode s, fun why s hdecode => runCommandWord_reserved hdecode s⟩
  · simp only [matches_iff_exists_command hr, rowOf_eq_iff hr]
  · obtain ⟨-, -, hoperand⟩ := decode_eq_command_iff.1 hdecode
    exact hoperand.symm
  · obtain ⟨-, -, hoperand⟩ := decode_eq_command_iff.1 hdecode
    exact (operandField_eq_setLimit_iff.1 hoperand).2.symm
  · obtain ⟨-, -, hoperand⟩ := decode_eq_command_iff.1 hdecode
    exact hoperand.symm

/-! ### The reserved words -/

/-- The four items of rule R98. -/
def ReservedKind (v : Word) : Prop :=
  (opcodeField v = 0x00#8 ∨ 0x0A#8 ≤ opcodeField v) ∨ zeroField v ≠ 0x00#8 ∨
  (opcodeField v ∈ [0x01#8, 0x02#8, 0x05#8, 0x06#8, 0x07#8, 0x08#8] ∧ operandField v ≠ 0#16) ∨
  (opcodeField v = 0x04#8 ∧ v.extractLsb' 1 15 ≠ 0#15)

theorem opcode_cases (o : Byte) : (o = 0x00#8 ∨ 0x0A#8 ≤ o) ∨ o ∈ [0x01#8, 0x02#8, 0x05#8, 0x06#8, 0x07#8, 0x08#8] ∨
    o = 0x03#8 ∨ o = 0x04#8 ∨ o = 0x09#8 := by
  simp only [List.mem_cons, List.not_mem_nil, or_false]
  bv_omega

/-- The opcodes of the commands without an argument (rule R93). -/
theorem exists_instr_without_operand {o : Byte} (h : o ∈ [0x01#8, 0x02#8, 0x05#8, 0x06#8, 0x07#8, 0x08#8]) :
    ∃ i, opcodeOf i = o ∧ operandOf i = 0#16 := by
  simp only [List.mem_cons, List.not_mem_nil, or_false] at h
  obtain rfl | rfl | rfl | rfl | rfl | rfl := h
  · exact ⟨.powerOn, rfl, rfl⟩
  · exact ⟨.powerOff, rfl, rfl⟩
  · exact ⟨.applyProfile, rfl, rfl⟩
  · exact ⟨.sample, rfl, rfl⟩
  · exact ⟨.tick, rfl, rfl⟩
  · exact ⟨.drainExpiry, rfl, rfl⟩

/-- Rule R98: a word of none of the four kinds is a command, since its opcode is one and its operand is admitted by it. -/
theorem exists_command_of_not_reservedKind {v : Word} (h : ¬ ReservedKind v) : ∃ i, decode v = .command i := by
  simp only [ReservedKind, not_or, not_and, ne_eq, not_not] at h
  obtain ⟨hassigned, hzero, hplain, hlimit⟩ := h
  obtain hopcode | hopcode | hopcode | hopcode | hopcode := opcode_cases (opcodeField v)
  · exact absurd hopcode (not_or.2 hassigned)
  · obtain ⟨i, hi, hoperand⟩ := exists_instr_without_operand hopcode
    exact ⟨i, decode_eq_command_iff.2 ⟨hi.symm, hzero, (hplain hopcode).trans hoperand.symm⟩⟩
  · exact ⟨.applyMode (operandField v), decode_eq_command_iff.2 ⟨hopcode, hzero, rfl⟩⟩
  · exact ⟨.setLimit (v.getLsbD 0), decode_eq_command_iff.2 ⟨hopcode, hzero, operandField_eq_setLimit_iff.2 ⟨hlimit hopcode, rfl⟩⟩⟩
  · exact ⟨.buildSetSpeed (operandField v), decode_eq_command_iff.2 ⟨hopcode, hzero, rfl⟩⟩

/-- Rule R98: no command's word is of one of the four kinds. -/
theorem not_reservedKind_of_command {v : Word} {i : Instr} (h : decode v = .command i) : ¬ ReservedKind v := by
  obtain ⟨hopcode, hzero, hoperand⟩ := decode_eq_command_iff.1 h
  rw [ReservedKind, hopcode, hzero, hoperand]
  cases i with
  | setLimit b =>
    have hclear := (operandField_eq_setLimit_iff.1 hoperand).1
    simp [opcodeOf, hclear]
  | _ => simp [opcodeOf, operandOf]

theorem decode_reserved_iff_reservedKind {v : Word} : (∃ why, decode v = .reserved why) ↔ ReservedKind v := by
  rw [decode_reserved_iff]
  refine ⟨fun hnone => ?_, fun hkind i hdecode => not_reservedKind_of_command hdecode hkind⟩
  by_contra hkind
  obtain ⟨i, hdecode⟩ := exists_command_of_not_reservedKind hkind
  exact hnone i hdecode

/-- Settles O4, by the rows and by the fields; the zero word has opcode 0. -/
theorem reservedWordsAreExactlyThese : Obligations.ReservedWordsAreExactlyThese :=
  ⟨fun _ => decode_reserved_iff_no_row, fun _ => decode_reserved_iff_reservedKind,
    decode_reserved_iff_reservedKind.2 (.inl (.inl rfl))⟩

/-- The worked reserved words of rule R104, each with the item of rule R98 it falls under. -/
theorem reservedKind_of_worked : ∀ v ∈ [0x00000000#32, 0x01000001#32, 0x03010000#32, 0x04000002#32, 0x0A000000#32, 0xFFFFFFFF#32],
    ReservedKind v := by
  intro v hv
  simp only [List.mem_cons, List.not_mem_nil, or_false] at hv
  obtain rfl | rfl | rfl | rfl | rfl | rfl := hv
  · exact .inl (.inl rfl)
  · exact .inr (.inr (.inl ⟨by decide, by decide⟩))
  · exact .inr (.inl (by decide))
  · exact .inr (.inr (.inr ⟨rfl, by decide⟩))
  · exact .inl (.inr (by decide))
  · exact .inl (.inr (by decide))

/-- Settles O6: the command of each worked word is the one it encodes, and the six reserved words are of the kinds of rule R98. -/
theorem specWordsDecode : Obligations.SpecWordsDecode := by
  refine ⟨fun p hp => ?_, fun v hv s => ?_⟩
  · have hencode : encode p.1 = p.2 := by revert p; decide
    exact ⟨hencode, decode_eq_command_iff_encode.2 hencode⟩
  · obtain ⟨why, hdecode⟩ := decode_reserved_iff_reservedKind.2 (reservedKind_of_worked v hv)
    exact runCommandWord_reserved hdecode s

/-! ### What a command reports -/

theorem modeExists_eq_false_iff (p : Params) (idx : Half) : modeExists p idx = false ↔ p.modes.length ≤ idx.toNat := by
  rw [← Bool.not_eq_true, modeExists_iff, Nat.not_lt]

/-- Rule R99: a command is ignored as rules R187 and R191 say, or it is executed and ends with the report clear. -/
theorem cmdIgnored_of_commandCase {s t : State} {i : Instr} (h : CommandCase s i t) :
    (∃ idx, i = .applyMode idx ∧ (modeExists s.params idx = false ∨ s.msmState = .safe)) ∨ t.cmdIgnored = false := by
  cases h with
  | applyModeIgnored idx hig => exact .inl ⟨idx, rfl, hig⟩
  | _ => exact .inr rfl

/-- Settles O9: what ignores a command is exactly the guard of the one case that writes only the report. -/
theorem commandReportsWhetherIgnored : Obligations.CommandReportsWhetherIgnored := by
  refine fun s => ⟨fun v why hdecode => runCommandWord_reserved hdecode s, fun v i hdecode => runCommandWord_command hdecode s,
    fun i => ?_⟩
  simp only [← modeExists_eq_false_iff]
  split_ifs with hignored
  · obtain ⟨idx, rfl, hig⟩ := hignored
    exact (CommandCase.applyModeIgnored idx hig).exec_eq
  · obtain ⟨t, hcase⟩ := exists_commandCase i s
    exact ⟨t, hcase.exec_eq, (cmdIgnored_of_commandCase hcase).resolve_left hignored⟩

/-! ### `POLL` -/

/-- Rule R53: no command writes the parameters, `rst`, the pending steps or the draws. -/
theorem bookkeeping_of_exec {s t : State} {i : Instr} (h : exec i s = .next t) :
    t.params = s.params ∧ t.rst = s.rst ∧ t.inbox = s.inbox ∧ t.draws = s.draws := by
  obtain ⟨-, -, -, -, -, -, -, -, -, -, -, hparams, hrst, -, hinbox, -, hdraws⟩ := commandsWriteOnlyTheirElements i s t h
  exact ⟨hparams, hrst, hinbox, hdraws⟩

/-- Rule R260: every command ends in a next state. -/
theorem exists_exec (i : Instr) (s : State) : ∃ t, exec i s = .next t := by
  obtain ⟨t, hcase⟩ := exists_commandCase i s
  exact ⟨t, hcase.exec_eq⟩

/-- Rule R71: the step that takes a command written to `CMD`, when the command's effect is known. -/
theorem step_commandWrite {s t : State} {i : Instr} {rest : List Event} (hvalid : s.params.valid = true) (hrst : s.rst = false)
    (hinbox : s.inbox = commandWrite i :: rest) (hexec : exec i (consumed rest s) = .next t) : step s = .next t := by
  rw [step_command hvalid hrst hinbox, runCommandWord_command (decode_encode i), hexec]

/-- What a `SAMPLE` leaves for the two commands of `POLL` that follow it. -/
theorem sample_keeps {s t : State} (h : exec .sample s = .next t) :
    t.msmState = s.msmState ∧ t.timeoutExpired = s.timeoutExpired ∧ t.profile = s.profile := by
  obtain ⟨-, -, -, hmsm, -, -, hcountdown, hprofile, -⟩ := commandsWriteOnlyTheirElements .sample s t h
  exact ⟨(hmsm (by decide)).1, (hcountdown (by decide)).2.1, hprofile (by decide)⟩

/-- Rule R196: draining a set flag in `RUNNING` disarms the output. -/
theorem drain_disarms {s t : State} (hrun : s.msmState = .running) (hflag : s.timeoutExpired = true)
    (h : exec .drainExpiry s = .next t) : t.armed = false := by
  cases exec_eq_next_iff.1 h with
  | drainClear hclear => simp [hclear] at hflag
  | drainFlagOnly _ hnot => exact absurd hrun hnot
  | drainToStandby => simp [enterStandby]
  | drainToSafe => simp [enterSafe]

theorem drain_clear {s t : State} (hflag : s.timeoutExpired = false) (h : exec .drainExpiry s = .next t) : t = executed s := by
  rw [(CommandCase.drainClear hflag).exec_eq, Host.Outcome.next.injEq] at h
  exact h.symm

/-- Rule R195: a blocked `TICK` in `RUNNING` leaves the output disarmed. -/
theorem blocked_tick_disarms {s t : State} (hrun : s.msmState = .running) (hblocked : blocked s = true)
    (h : exec .tick s = .next t) : t.armed = false := by
  cases exec_eq_next_iff.1 h with
  | tickTrip => simp [tripOutput]
  | tickTripped _ _ harmed => simpa using harmed
  | tickWave hnot => simp [hnot] at hblocked
  | tickIdle hidle => simp [hrun, hblocked] at hidle

/-- Rule R189: a `TICK` does not arm. -/
theorem tick_keeps_disarmed {s t : State} (harmed : s.armed = false) (h : exec .tick s = .next t) : t.armed = false := by
  by_contra hne
  obtain hbefore | ⟨idx, htick, -⟩ := armed_of_commandCase (exec_eq_next_iff.1 h) (by simpa using hne)
  · simp [harmed] at hbefore
  · cases htick

/-- The state with other pending steps and another count of draws: what differs between the steps of a run besides their effects. -/
def bookedWith (es : List Event) (n : Nat) (s : State) : State := { s with inbox := es, draws := n }

/-- Rule R197: after a set flag is drained, or after a sample that asserts an enabled interlock, the `TICK` ends disarmed. -/
theorem drain_tick_disarms {a b c : State} (es : List Event) (n : Nat) (hrun : a.msmState = .running)
    (hcause : a.timeoutExpired = true ∨ blocked a = true) (hdrain : exec .drainExpiry a = .next b)
    (htick : exec .tick (bookedWith es n b) = .next c) : c.armed = false := by
  cases hflag : a.timeoutExpired with
  | true =>
    have harmed : b.armed = false := drain_disarms hrun hflag hdrain
    exact tick_keeps_disarmed (s := bookedWith es n b) harmed htick
  | false =>
    have hblocked : blocked a = true := hcause.resolve_left (by simp [hflag])
    obtain rfl := drain_clear hflag hdrain
    exact blocked_tick_disarms (s := bookedWith es n (executed a)) hrun hblocked htick

/-- Settles O44: each command takes its own write from the pending steps and keeps the others; then the flag or the interlock, whichever is
set, disarms in its step. -/
theorem pollIsSampleDrainTick : Obligations.PollIsSampleDrainTick := by
  refine ⟨rfl, fun s hvalid hrst => ?_⟩
  obtain ⟨a, hsample⟩ := exists_exec .sample (consumed ([commandWrite .drainExpiry, commandWrite .tick] ++ s.inbox) s)
  obtain ⟨hparamsA, hrstA, hinboxA, hdrawsA⟩ := bookkeeping_of_exec hsample
  obtain ⟨b, hdrain⟩ := exists_exec .drainExpiry (consumed ([commandWrite .tick] ++ s.inbox) a)
  obtain ⟨hparamsB, hrstB, hinboxB, hdrawsB⟩ := bookkeeping_of_exec hdrain
  obtain ⟨c, htick⟩ := exists_exec .tick (consumed s.inbox b)
  have hstepA : step (issueProgram [.poll] s) = .next a := step_commandWrite hvalid hrst rfl hsample
  have hstepB : step a = .next b := step_commandWrite (hparamsA ▸ hvalid) (hrstA ▸ hrst) hinboxA hdrain
  have hstepC : step b = .next c :=
    step_commandWrite (by rw [hparamsB]; exact hparamsA ▸ hvalid) (by rw [hrstB]; exact hrstA ▸ hrst) hinboxB htick
  have hdrawA : a.draws + 1 = s.draws + 2 := by rw [hdrawsA]; rfl
  have hdrawB : b.draws + 1 = s.draws + 3 := by rw [hdrawsB]; exact congrArg (· + 1) hdrawA
  rw [consumed, hdrawA] at hdrain
  rw [consumed, hdrawB] at htick
  refine ⟨a, b, c, hsample, hdrain, htick, ?_, fun hrun hcause => ?_⟩
  · rw [core_run_succ hstepA, core_run_succ hstepB, core_run_succ hstepC]; rfl
  · obtain ⟨hmsm, hflag, hprofile⟩ := sample_keeps hsample
    refine drain_tick_disarms (a := bookedWith ([commandWrite .tick] ++ s.inbox) (s.draws + 2) a) s.inbox (s.draws + 3)
      (hmsm.trans hrun) ?_ hdrain htick
    refine hcause.imp hflag.trans fun ⟨henabled, hlevel⟩ => ?_
    rw [blocked_eq]
    exact Bool.and_eq_true_iff.2 ⟨(congrArg Profile.interlockEnabled hprofile).trans henabled, hlevel⟩

/-! ### `AT` -/

theorem satSub1000_eq_ofNat (r : Word) : satSub1000 r = BitVec.ofNat 32 (r.toNat - 1000) := by
  rw [← satSub1000_toNat, BitVec.ofNat_toNat, BitVec.setWidth_eq]

theorem timePasses_tick {s : State} {tickFirst : Bool} (htick : tickDue s = true) (horder : tickFirst = true ∨ expiryDue s = false) :
    timePasses tickFirst s = tickFire s := by
  rw [timePasses, if_pos (by simp [lineDue, htick]), fireDueLine, if_pos (by simpa [htick] using horder)]

theorem timePasses_expiry {s : State} {tickFirst : Bool} (hexpiry : expiryDue s = true)
    (horder : tickFirst = false ∨ tickDue s = false) : timePasses tickFirst s = expiryFire s := by
  have htick : ¬ (tickDue s && (tickFirst || !expiryDue s)) = true := by
    obtain h | h := horder <;> simp [h, hexpiry]
  rw [timePasses, if_pos (by simp [lineDue, hexpiry]), fireDueLine, if_neg htick, expiryTurn, if_pos hexpiry]

theorem timePasses_idle {s : State} (tickFirst : Bool) (hidle : lineDue s = false) : timePasses tickFirst s = timeAdvance s :=
  if_neg (by simp [hidle])

theorem expiryTurn_bookedWith (es : List Event) (n : Nat) (s : State) :
    expiryTurn (bookedWith es n s) = bookedWith es n (expiryTurn s) :=
  (apply_ite (bookedWith es n) (expiryDue s = true) (expiryFire s) s).symm

theorem fireDueLine_bookedWith (tickFirst : Bool) (es : List Event) (n : Nat) (s : State) :
    fireDueLine tickFirst (bookedWith es n s) = bookedWith es n (fireDueLine tickFirst s) := by
  rw [fireDueLine, fireDueLine, expiryTurn_bookedWith, apply_ite (bookedWith es n)]; rfl

/-- What time does depends on nothing that is pending or drawn. -/
theorem timePasses_bookedWith (tickFirst : Bool) (es : List Event) (n : Nat) (s : State) :
    timePasses tickFirst (bookedWith es n s) = bookedWith es n (timePasses tickFirst s) := by
  rw [timePasses, timePasses, fireDueLine_bookedWith, apply_ite (bookedWith es n)]; rfl

section AtStatement
variable {s : State} {rest : List Event} {t : Word} {tickFirst : Bool}

/-- Rule R236: the turn in which `AT t` is over. -/
theorem step_at_over (hvalid : s.params.valid = true) (hrst : s.rst = false) (hinbox : s.inbox = .runUntil t tickFirst :: rest)
    (hidle : lineDue s = false) (hnow : s.nowMs = t) : step s = .next (consumed rest s) := by
  rw [step_takes_event hvalid hrst hinbox]
  exact congrArg _ (if_pos (c := lineDue s = false ∧ s.nowMs = t) ⟨hidle, hnow⟩)

/-- Rule R236: any other turn of `AT t` lets time pass and leaves the statement pending. -/
theorem step_at_pending (hvalid : s.params.valid = true) (hrst : s.rst = false) (hinbox : s.inbox = .runUntil t tickFirst :: rest)
    (hgo : ¬ (lineDue s = false ∧ s.nowMs = t)) : step s = .next (bookedWith s.inbox (s.draws + 1) (timePasses tickFirst s)) := by
  have huntil : untilTime t tickFirst (consumed rest s) = keepPending (.runUntil t tickFirst) (timePasses tickFirst (consumed rest s)) :=
    if_neg hgo
  have hpass : timePasses tickFirst (consumed rest s) = bookedWith rest (s.draws + 1) (timePasses tickFirst s) :=
    timePasses_bookedWith tickFirst rest (s.draws + 1) s
  rw [step_takes_event hvalid hrst hinbox, takeEvent, huntil, hpass, hinbox]; rfl

end AtStatement

/-- How many turns `AT t` can still take: three in each millisecond to come (two firings and the advance), the lines due now, and the
last turn. -/
def atTurns (t : Word) (s : State) : Nat := 3 * (t - s.nowMs).toNat + (tickDue s).toNat + (expiryDue s).toNat + 1

theorem atTurns_le (t : Word) (s : State) : atTurns t s ≤ 3 * (t - s.nowMs).toNat + 3 := by
  have htick := (tickDue s).toNat_le
  have hexpiry := (expiryDue s).toNat_le
  rw [atTurns]
  omega

/-- A millisecond less to go. -/
theorem toNat_sub_succ {t now : Word} (h : now ≠ t) : (t - (now + 1#32)).toNat + 1 = (t - now).toNat := by
  bv_omega

/-- A turn that is not the last one leaves fewer to take: a fired line is not due again, and time advances towards `t`. -/
theorem atTurns_timePasses {t : Word} {s : State} (tickFirst : Bool) (hgo : ¬ (lineDue s = false ∧ s.nowMs = t)) :
    atTurns t (timePasses tickFirst s) < atTurns t s := by
  obtain ⟨hdue, hpass⟩ | ⟨hdue, hpass⟩ | ⟨htick, hexpiry, hpass⟩ := timePasses_cases tickFirst s
  · simp [hpass, atTurns, tickDue_after_tickFire hdue, expiryDue_tickFire, hdue]
  · simp [hpass, atTurns, expiryDue_after_expiryFire, tickDue_expiryFire, hdue]
  · have hnow : s.nowMs ≠ t := fun h => hgo ⟨(lineDue_eq_false s).2 ⟨htick, hexpiry⟩, h⟩
    have hless := toNat_sub_succ hnow
    have hbound := atTurns_le t (timeAdvance s)
    rw [timeAdvance_nowMs] at hbound
    rw [hpass, atTurns.eq_def t s, htick, hexpiry, Bool.toNat_false]
    omega

/-- `s` with the elements of the timer context, `now_ms` and the model's own bookkeeping as in `u` (rule R74). -/
def timerAs (u s : State) : State :=
  { s with
    inbox := u.inbox, nowMs := u.nowMs, remainingMs := u.remainingMs, timeoutExpired := u.timeoutExpired, tickNextMs := u.tickNextMs,
    expiryArmed := u.expiryArmed, draws := u.draws }

theorem eq_timerAs_of_timerTurn {s u : State} (h : TimerTurn s u) : u = timerAs u s := by
  cases h with
  | tickFires ht => rw [ht]; rfl
  | expiryFires ht => rw [ht]; rfl
  | timeAdvances ht => rw [ht]; rfl
  | nothing ht => rw [ht]; rfl

theorem eq_timerAs_trans {s u w : State} (hsu : u = timerAs u s) (huw : w = timerAs w u) : w = timerAs w s := by
  rw [hsu] at huw; exact huw

/-- Rule R236: a turn of `AT t` that is not the last one goes on with the same statement and has fewer turns to take. -/
theorem at_goes_on {s : State} {rest : List Event} {t : Word} {tickFirst : Bool} (hvalid : s.params.valid = true) (hrst : s.rst = false)
    (hinbox : s.inbox = .runUntil t tickFirst :: rest) (hgo : ¬ (lineDue s = false ∧ s.nowMs = t)) :
    ∃ v, step s = .next v ∧ v.inbox = s.inbox ∧ atTurns t v < atTurns t s ∧ v = timerAs v s := by
  have hstep := step_at_pending hvalid hrst hinbox hgo
  have hturn := timerTurn_of_step hstep (.inr ⟨_, _, hinbox, .inr (.inr (.inr ⟨_, _, rfl⟩))⟩)
  exact ⟨_, hstep, rfl, atTurns_timePasses tickFirst hgo, eq_timerAs_of_timerTurn hturn⟩

/-- Rule R236: `AT t` ends, with nothing due at `t`, by induction on the turns it can still take. -/
theorem at_ends (t : Word) (tickFirst : Bool) (rest : List Event) (n : Nat) : ∀ s : State, atTurns t s ≤ n →
    s.params.valid = true → s.rst = false → s.inbox = .runUntil t tickFirst :: rest →
    ∃ (k : Nat) (u : State), k ≤ n ∧ core.run k s = .next u ∧ lineDue u = false ∧ u.nowMs = t ∧ u.inbox = rest ∧ u = timerAs u s := by
  induction n with
  | zero => exact fun s hturns => by simp [atTurns] at hturns
  | succ n ih =>
    intro s hturns hvalid hrst hinbox
    by_cases hover : lineDue s = false ∧ s.nowMs = t
    · obtain ⟨hidle, hnow⟩ := hover
      exact ⟨1, consumed rest s, by omega, core_run_succ (step_at_over hvalid hrst hinbox hidle hnow), hidle, hnow, rfl, rfl⟩
    · obtain ⟨v, hstep, hsame, hfewer, hframe⟩ := at_goes_on hvalid hrst hinbox hover
      have hparams : v.params = s.params := by rw [hframe]; rfl
      have hrstV : v.rst = s.rst := by rw [hframe]; rfl
      obtain ⟨k, u, hk, hrun, hidle, hnow, hrest, hu⟩ :=
        ih v (by omega) (hparams ▸ hvalid) (hrstV.trans hrst) (hsame.trans hinbox)
      exact ⟨k + 1, u, by omega, (core_run_succ hstep).trans hrun, hidle, hnow, hrest, eq_timerAs_trans hframe hu⟩

/-- Nothing is due at `t`, in the elements of the two lines. -/
theorem not_due_of_idle {u : State} {t : Word} (hidle : lineDue u = false) (hnow : u.nowMs = t) :
    ¬ (u.tickArmed = true ∧ t = u.tickNextMs) ∧ ¬ (u.expiryArmed = true ∧ t = u.expiryDeadlineMs) := by
  rw [← hnow, ← tickDue_iff, ← expiryDue_iff, Bool.not_eq_true, Bool.not_eq_true]
  exact (lineDue_eq_false u).1 hidle

/-- Settles O59: the turns by what is due, and the end by counting them. -/
theorem atRunsUntilItsTime : Obligations.AtRunsUntilItsTime := by
  intro s rest t tickFirst hvalid hrst hinbox
  simp only [← tickDue_iff, ← expiryDue_iff, Bool.not_eq_true]
  refine ⟨fun htick horder => ?_, fun hexpiry horder => ?_, fun htick hexpiry => ⟨fun hnow => ?_, fun hnow => ?_⟩, ?_⟩
  · rw [step_at_pending hvalid hrst hinbox (by simp [lineDue, htick]), timePasses_tick htick horder, ← satSub1000_eq_ofNat]; rfl
  · rw [step_at_pending hvalid hrst hinbox (by simp [lineDue, hexpiry]), timePasses_expiry hexpiry horder]; rfl
  · have hidle := (lineDue_eq_false s).2 ⟨htick, hexpiry⟩
    rw [step_at_pending hvalid hrst hinbox (fun h => hnow h.2), timePasses_idle tickFirst hidle]; rfl
  · exact step_at_over hvalid hrst hinbox ((lineDue_eq_false s).2 ⟨htick, hexpiry⟩) hnow
  · obtain ⟨k, u, hk, hrun, hidle, hnow, hrest, hu⟩ := at_ends t tickFirst rest _ s (atTurns_le t s) hvalid hrst hinbox
    obtain ⟨htick, hexpiry⟩ := not_due_of_idle hidle hnow
    refine ⟨k, u, hk, hrun, htick, hexpiry, ?_⟩
    rw [← hnow, ← hrest]; exact hu

end Machine
end Sys2Proof

/-! The PinSafetyController (`40_pin_safety.md`): a command appends nothing to the trace, or what one pin operation appends, the stop and then
one event (rules R121 to R125); so a start comes right after a stop of its own command (rule R128). -/
namespace Sys2Proof
namespace Machine

/-! ### What a pin operation appends -/

theorem toDrivenLow_trace (s : State) : (toDrivenLow s).pinTrace = s.pinTrace ++ stopEvents s ++ [.setDrivenLow] := by
  rw [toDrivenLow_eq]

theorem toHighImpedance_trace (s : State) : (toHighImpedance s).pinTrace = s.pinTrace ++ stopEvents s ++ [.setHiZ] := by
  rw [toHighImpedance_eq]

/-- Rule R124 on both backends: under the polled one the stop events are the stop alone. -/
theorem toActiveWaveform_trace (f : Half) (s : State) :
    (toActiveWaveform f s).pinTrace = s.pinTrace ++ stopEvents s ++ [.waveStart (clampFreq s.params f)] := by
  cases hb : s.params.waveBackend with
  | polled => rw [toActiveWaveform_polled f s hb]; simp [stopEvents, hb]
  | channel => rw [toActiveWaveform_channel f s hb]

theorem enterStandby_trace (s : State) : (enterStandby s).pinTrace = s.pinTrace ++ stopEvents s ++ [.setDrivenLow] :=
  toDrivenLow_trace s

theorem enterSafe_trace (s : State) : (enterSafe s).pinTrace = s.pinTrace ++ stopEvents s ++ [.setHiZ] :=
  toHighImpedance_trace s

theorem finishMode_trace (idx : Half) (s : State) : (finishMode idx s).pinTrace = s.pinTrace :=
  startOrRestartCountdown_pinTrace _

/-! ### What a command appends -/

/-- Rule R125: a command makes at most one pin operation, which appends the stop events of the state it runs in and then one event. -/
theorem trace_of_commandCase {s t : State} {i : Instr} (hcase : CommandCase s i t) :
    t.pinTrace = s.pinTrace ∨ ∃ e, t.pinTrace = s.pinTrace ++ stopEvents s ++ [e] := by
  cases hcase with
  | powerOn | drainToStandby => exact .inr ⟨_, enterStandby_trace s⟩
  | powerOff | drainToSafe => exact .inr ⟨_, enterSafe_trace s⟩
  | applyProfileSafe => exact .inr ⟨_, toHighImpedance_trace { s with profile := latchedProfile s.params s.staged }⟩
  | applyProfileStandby => exact .inr ⟨_, enterStandby_trace { s with profile := latchedProfile s.params s.staged }⟩
  | tickTrip => exact .inr ⟨_, toDrivenLow_trace s⟩
  | applyModeNoWave idx | applyModeBlocked idx =>
    exact .inr ⟨_, (finishMode_trace idx _).trans (toDrivenLow_trace { s with activeModeIndex := idx })⟩
  | applyModeWave idx => exact .inr ⟨_, (finishMode_trace idx _).trans (toActiveWaveform_trace _ { s with activeModeIndex := idx })⟩
  | setLimitRestarted => exact .inl (startOrRestartCountdown_pinTrace _)
  | sampleNext => rw [recordRawChange_eq, adoptStableLevel_eq]; exact .inl rfl
  | applyModeIgnored | setLimitStored | setLimitCancelled | sampleFirst | tickTripped | tickWave | tickIdle | drainClear | drainFlagOnly |
    buildSetSpeed => exact .inl rfl

/-! ### Where a start stands -/

theorem waveStart_notMem_stopEvents (f : Half) (s : State) : PinEvent.waveStart f ∉ stopEvents s := by
  rw [stopEvents]; split_ifs <;> simp

/-- Rules R121 and R125: the settling delay stands before the start exactly when a channel waveform was running. -/
theorem stopEvents_append_waveStart (f : Half) (s : State) : stopEvents s ++ [.waveStart f] =
    if s.params.waveBackend = .channel ∧ s.chRunning = true then [.waveStop, .settle, .waveStart f] else [.waveStop, .waveStart f] := by
  rw [stopEvents]; split_ifs <;> rfl

/-- Settles O42: no stop event is a start, so a start that a command appends is the one event after the stop events. -/
theorem startsFollowStops : Obligations.StartsFollowStops := by
  intro i s t hexec
  obtain hkept | ⟨e, happended⟩ := trace_of_commandCase (exec_eq_next_iff.1 hexec)
  · exact ⟨[], by rw [hkept, List.append_nil], by simp⟩
  · refine ⟨stopEvents s ++ [e], by rw [happended, List.append_assoc], fun f hmem => ?_⟩
    have hlast : PinEvent.waveStart f ∈ [e] := (List.mem_append.1 hmem).resolve_left (waveStart_notMem_stopEvents f s)
    rw [← List.mem_singleton.1 hlast, stopEvents_append_waveStart]

end Machine
end Sys2Proof

/-! The polled wave of `41_frequency_generator.md` (rules R124 and R144 to R146): `n` milliseconds after its start the next toggle is the end
of the half-period that `n` lies in and the phase is the parity of its number; a millisecond with its `TICK` takes this from `n` to `n + 1`. -/
namespace Sys2Proof
namespace Machine

/-! ### The polled generator's tick -/

/-- Rule R15: a sum that stays below 2^32 does not wrap. -/
theorem afterMs_toNat {t : Word} {ms : Nat} (h : t.toNat + ms < 2 ^ 32) : (afterMs t ms).toNat = t.toNat + ms := by
  rw [afterMs, BitVec.toNat_add, BitVec.toNat_ofNat]
  omega

theorem genTick_due {s : State} (h : s.nextToggleMs ≤ s.nowMs) : genTick s = { s with
    waveformPhase := !s.waveformPhase, outputLevel := !s.waveformPhase && s.armed,
    nextToggleMs := afterMs s.nextToggleMs (halfPeriod s.params s.currentFrequencyHz) } := by
  simp [genTick, h]

theorem genTick_waiting {s : State} (h : ¬ s.nextToggleMs ≤ s.nowMs) :
    genTick s = { s with outputLevel := s.waveformPhase && s.armed } := by
  simp [genTick, h]

/-! ### Which half-period a millisecond lies in -/

theorem succ_div_of_le {n hp : Nat} (hpos : 1 ≤ hp) (h : (n / hp + 1) * hp ≤ n + 1) : (n + 1) / hp = n / hp + 1 := by
  refine Nat.div_eq_of_lt_le h ?_
  have hlt : n < n / hp * hp + hp := Nat.lt_div_mul_add hpos
  rw [Nat.succ_mul, Nat.succ_mul]
  omega

theorem succ_div_of_lt {n hp : Nat} (h : n + 1 < (n / hp + 1) * hp) : (n + 1) / hp = n / hp :=
  Nat.div_eq_of_lt_le ((Nat.div_mul_le_self n hp).trans n.le_succ) h

theorem decide_odd_succ (q : Nat) : decide ((q + 1) % 2 = 1) = !decide (q % 2 = 1) := by
  rw [← decide_not, decide_eq_decide]
  omega

/-! ### The wave from its start on -/

/-- A polled waveform with half-period `hp` is being driven and the interlock allows it: what makes a `TICK` run `gen_tick` (rule R195). -/
structure PolledWave (hp : Nat) (s : State) : Prop where
  running : s.msmState = .running
  pin : s.pinState = .activeWaveform
  backend : s.params.waveBackend = .polled
  unblocked : blocked s = false
  armed : s.armed = true
  period : halfPeriod s.params s.currentFrequencyHz = hp

/-- The polled wave `n` milliseconds after its start at the time `start`, with the `TICK` of this millisecond done (rule R146). -/
structure WaveAt (start hp n : Nat) (s : State) : Prop extends PolledWave hp s where
  now : s.nowMs.toNat = start + n
  toggle : s.nextToggleMs.toNat = start + (n / hp + 1) * hp
  phase : s.waveformPhase = decide (n / hp % 2 = 1)
  level : s.outputLevel = s.waveformPhase

/-- Rule R14: the half-period of a frequency does not change when the frequency is clamped first. -/
theorem halfPeriod_clampFreq {p : Params} (h : p.valid = true) (f : Half) : halfPeriod p (clampFreq p f) = halfPeriod p f := by
  rw [halfPeriod_eq_max, halfPeriod_eq_max, clampFreq_clampFreq (fMin_le_fMax_of_valid h)]

/-- Rule R124: the start puts the polled wave at the beginning of its low half-period. -/
theorem waveAt_selectWaveform {s : State} {f : Half} (hvalid : s.params.valid = true) (hbackend : s.params.waveBackend = .polled)
    (hblocked : blocked s = false) (hnowrap : s.nowMs.toNat + halfPeriod s.params f < 2 ^ 32) :
    WaveAt s.nowMs.toNat (halfPeriod s.params f) 0 (selectWaveform f s) := by
  rw [selectWaveform, toActiveWaveform_polled _ _ hbackend]
  have htoggle : (afterMs s.nowMs (halfPeriod s.params (clampFreq s.params f))).toNat =
      s.nowMs.toNat + (0 + 1) * halfPeriod s.params f := by
    rw [halfPeriod_clampFreq hvalid, afterMs_toNat hnowrap, zero_add, one_mul]
  exact { running := rfl, pin := rfl, backend := hbackend, unblocked := hblocked, armed := rfl, period := halfPeriod_clampFreq hvalid f,
          now := rfl, toggle := by rwa [Nat.zero_div], phase := by rw [Nat.zero_div]; rfl, level := rfl }

/-- Rule R187: the indicator and the countdown that end an `APPLY_MODE` leave the wave as it was started. -/
theorem waveAt_finishMode {start hp n : Nat} {s : State} (idx : Half) (h : WaveAt start hp n s) :
    WaveAt start hp n (executed (finishMode idx s)) := by
  rw [finishMode, startOrRestartCountdown_eq]
  exact { h with }

/-- Rule R189: an executed `APPLY_MODE` that leaves the output armed was its waveform case, so it leaves a wave at its start. -/
theorem waveAt_of_applyMode {s t : State} {idx : Half} (hvalid : s.params.valid = true) (hbackend : s.params.waveBackend = .polled)
    (hcase : CommandCase s (.applyMode idx) t) (hexecuted : t.cmdIgnored = false) (harmed : t.armed = true)
    (hnowrap : s.nowMs.toNat + halfPeriod s.params (modeAt s.params idx).frequencyHz < 2 ^ 32) :
    WaveAt s.nowMs.toNat (halfPeriod s.params (modeAt s.params idx).frequencyHz) 0 t := by
  cases hcase with
  | applyModeIgnored => simp [ignoreCommand] at hexecuted
  | applyModeNoWave => simp [finishMode, selectNoWaveform] at harmed
  | applyModeBlocked => simp [finishMode, selectBlocked] at harmed
  | applyModeWave _ _ _ _ hblocked =>
    exact waveAt_finishMode idx (waveAt_selectWaveform (s := { s with activeModeIndex := idx }) hvalid hbackend hblocked hnowrap)

/-! ### A millisecond with its `TICK` -/

/-- The lines that fire in a millisecond write nothing that the wave rests on (rule R53). -/
theorem polledWave_millisecondPasses {hp : Nat} {s : State} (h : PolledWave hp s) : PolledWave hp (millisecondPasses s) := by
  rw [millisecondPasses_eq]
  exact { h with }

theorem polledWave_genTick {hp : Nat} {s : State} (h : PolledWave hp s) : PolledWave hp (executed (genTick s)) := { h with }

theorem nowMs_millisecondPasses {s : State} (h : s.nowMs.toNat + 1 < 2 ^ 32) : (millisecondPasses s).nowMs.toNat = s.nowMs.toNat + 1 := by
  rw [millisecondPasses_eq]
  exact afterMs_toNat h

/-- Rule R195: a `TICK` of the driven wave is one `gen_tick`. -/
theorem tickEveryMs_succ {hp n : Nat} {s : State} (h : PolledWave hp (tickEveryMs n s)) :
    tickEveryMs (n + 1) s = executed (genTick (millisecondPasses (tickEveryMs n s))) := by
  obtain ⟨hrun, hpin, hbackend, hblocked, -, -⟩ := polledWave_millisecondPasses h
  rw [tickEveryMs, (CommandCase.tickWave hblocked hrun hpin hbackend).exec_eq]

/-- Rule R144 on the wave: when the next toggle, the end of half-period `n / hp`, is reached at `n + 1`, the tick begins the next
half-period, and else it stays in this one. -/
theorem waveAt_genTick {start hp n : Nat} {s : State} (hpos : 1 ≤ hp) (hnowrap : start + (n + 1) + hp < 2 ^ 32) (hwave : PolledWave hp s)
    (hnow : s.nowMs.toNat = start + (n + 1)) (htoggle : s.nextToggleMs.toNat = start + (n / hp + 1) * hp)
    (hphase : s.waveformPhase = decide (n / hp % 2 = 1)) : WaveAt start hp (n + 1) (executed (genTick s)) := by
  by_cases hdue : s.nextToggleMs ≤ s.nowMs
  · have hend : (n / hp + 1) * hp ≤ n + 1 := by rw [BitVec.le_def] at hdue; omega
    have hdiv : (n + 1) / hp = n / hp + 1 := succ_div_of_le hpos hend
    have hnext : (afterMs s.nextToggleMs hp).toNat = start + (n / hp + 1 + 1) * hp := by
      rw [afterMs_toNat (by omega), htoggle, Nat.succ_mul (n / hp + 1), Nat.add_assoc]
    refine { polledWave_genTick hwave with now := hnow, toggle := ?_, phase := ?_, level := ?_ } <;> rw [genTick_due hdue]
    · simpa [hdiv, hwave.period] using hnext
    · simp [hdiv, hphase, decide_odd_succ]
    · simp [hwave.armed]
  · have hwithin : n + 1 < (n / hp + 1) * hp := by rw [BitVec.le_def] at hdue; omega
    have hdiv : (n + 1) / hp = n / hp := succ_div_of_lt hwithin
    refine { polledWave_genTick hwave with now := hnow, toggle := ?_, phase := ?_, level := ?_ } <;> rw [genTick_waiting hdue]
    · simpa [hdiv] using htoggle
    · simpa [hdiv] using hphase
    · simp [hwave.armed]

/-- Rule R146: one more millisecond of the wave. Lines that fire in it take no part. -/
theorem waveAt_succ {start hp n : Nat} {s : State} (hpos : 1 ≤ hp) (hnowrap : start + (n + 1) + hp < 2 ^ 32) (h : WaveAt start hp n s) :
    WaveAt start hp (n + 1) (executed (genTick (millisecondPasses s))) := by
  refine waveAt_genTick hpos hnowrap (polledWave_millisecondPasses h.toPolledWave) ?_ ?_ ?_
  · rw [nowMs_millisecondPasses (by rw [h.now]; omega), h.now, Nat.add_assoc]
  · rw [millisecondPasses_eq]; exact h.toggle
  · rw [millisecondPasses_eq]; exact h.phase

/-- Rule R146: a wave at its start is after `n` ticked milliseconds the wave at `n`, as long as `now_ms` does not wrap (rule R303). -/
theorem waveAt_tickEveryMs {start hp n : Nat} {s : State} (hpos : 1 ≤ hp) (h : WaveAt start hp 0 s) (hnowrap : start + n + hp < 2 ^ 32) :
    WaveAt start hp n (tickEveryMs n s) := by
  induction n with
  | zero => exact h
  | succ n ih =>
    have hn : WaveAt start hp n (tickEveryMs n s) := ih (by omega)
    rw [tickEveryMs_succ hn.toPolledWave]
    exact waveAt_succ hpos hnowrap hn

/-- Settles O45: the accepted start leaves the wave at millisecond 0, and each millisecond with its `TICK` takes it one further. -/
theorem polledWaveHasItsPeriod : Obligations.PolledWaveHasItsPeriod := by
  rintro s t idx n hp hvalid hbackend hexec hexecuted harmed rfl hnowrap
  have hstart := waveAt_of_applyMode hvalid hbackend (exec_eq_next_iff.1 hexec) hexecuted harmed (by omega)
  have hwave := waveAt_tickEveryMs (halfPeriod_pos _ _) hstart hnowrap
  exact ⟨hwave.level.trans hwave.phase, hwave.toggle, hwave.armed⟩

end Machine
end Sys2Proof

/-! The debounce filter and the interlock (`42_debounce_interlock.md`): what a `SAMPLE` leaves (rules R162 and R163); within the window the
stable level stays, because a pending change is no older than the samples seen so far (rule R164); and one `TICK` of a blocked block leaves
the output disarmed, which by rule R49 puts the pin at the off level (rule R170). -/
namespace Sys2Proof
namespace Machine

/-! ### `SAMPLE` -/

theorem exec_sample_first {s : State} (hinit : s.dbInit = false) : exec .sample s = .next { s with
    dbInit := true, lastRaw := s.pinIn, inputLevel := s.pinIn, lastInputChangeMs := s.nowMs, cmdIgnored := false } :=
  (CommandCase.sampleFirst hinit).exec_eq

/-- Rule R166 (a): right after a recorded change the window has passed only if its length is 0. -/
theorem windowPassed_of_changed_now {s : State} (h : s.lastInputChangeMs = s.nowMs) :
    windowPassed s = true ↔ s.profile.debounceMs = 0#16 := by
  rw [windowPassed_iff, h, BitVec.sub_self, ← BitVec.toNat_inj]
  exact Nat.le_zero

theorem exec_sample_changed {s : State} (hinit : s.dbInit = true) (hraw : s.pinIn ≠ s.lastRaw) : exec .sample s = .next { s with
    lastRaw := s.pinIn, lastInputChangeMs := s.nowMs,
    inputLevel := if s.profile.debounceMs = 0#16 then s.pinIn else s.inputLevel, cmdIgnored := false } := by
  rw [(CommandCase.sampleNext hinit).exec_eq, recordRawChange_eq, adoptStableLevel_eq, if_neg hraw]
  simp only [windowPassed_of_changed_now, executed]

theorem exec_sample_unchanged {s : State} (hinit : s.dbInit = true) (hraw : s.pinIn = s.lastRaw) : exec .sample s = .next { s with
    inputLevel := if s.profile.debounceMs.toNat ≤ (s.nowMs - s.lastInputChangeMs).toNat then s.lastRaw else s.inputLevel,
    cmdIgnored := false } := by
  rw [(CommandCase.sampleNext hinit).exec_eq, recordRawChange_eq, adoptStableLevel_eq, if_pos hraw]
  simp only [windowPassed_iff, hraw, executed]

/-- Settles O20, by the filter's initialisation and by whether the raw level changed. -/
theorem sampleResult : Obligations.SampleResult :=
  fun _ => ⟨exec_sample_first, exec_sample_changed, exec_sample_unchanged⟩

/-! ### Within the debounce window -/

/-- The filter during a run of samples from `base`, the last one at offset `last`: the stable level is still that of `base`, and a raw level
that differs from it was recorded since, no later than at `last`. -/
structure LevelHeld (base : State) (last : Nat) (s : State) : Prop where
  init : s.dbInit = true
  window : s.profile = base.profile
  level : s.inputLevel = base.inputLevel
  change : s.lastRaw = base.inputLevel ∨ ∃ c ≤ last, s.lastInputChangeMs = afterMs base.nowMs c

/-- The modular elapsed time between two offsets that fit a word is their difference (rule R15). -/
theorem afterMs_sub_afterMs_toNat (t : Word) {c o : Nat} (hco : c ≤ o) (ho : o < 2 ^ 32) :
    (afterMs t o - afterMs t c).toNat = o - c := by
  rw [afterMs, afterMs, BitVec.toNat_sub, BitVec.toNat_add, BitVec.toNat_add, BitVec.toNat_ofNat, BitVec.toNat_ofNat]
  omega

/-- Rule R164: a `SAMPLE` inside the window does not adopt the raw level, be it the first to see it or a later one. -/
theorem levelHeld_sample {base s : State} {last o : Nat} (level : Bool) (h : LevelHeld base last s) (hlast : last ≤ o)
    (ho : o < base.profile.debounceMs.toNat) :
    ∃ t, exec .sample (sampledAt base o level s) = .next t ∧ LevelHeld base o t := by
  obtain ⟨hinit, hwindow, hlevel, hchange⟩ := h
  have hsmall : base.profile.debounceMs.toNat < 2 ^ 16 := base.profile.debounceMs.isLt
  by_cases hraw : level = s.lastRaw
  · refine ⟨_, exec_sample_unchanged (s := sampledAt base o level s) hinit hraw, hinit, hwindow, ?_, ?_⟩
    · obtain hsettled | ⟨c, hc, hrecorded⟩ := hchange
      · simp [sampledAt, hsettled, hlevel]
      · have helapsed := afterMs_sub_afterMs_toNat base.nowMs (hc.trans hlast) (by omega)
        simp only [sampledAt, hrecorded, hwindow, helapsed]
        rw [if_neg (by omega), hlevel]
    · exact hchange.imp_right fun ⟨c, hc, hrecorded⟩ => ⟨c, hc.trans hlast, hrecorded⟩
  · have hpositive : s.profile.debounceMs ≠ 0#16 := by
      intro hzero
      simp [← hwindow, hzero] at ho
    exact ⟨_, exec_sample_changed (s := sampledAt base o level s) hinit hraw, hinit, hwindow,
      (if_neg hpositive).trans hlevel, .inr ⟨o, le_rfl, rfl⟩⟩

theorem sampleRun_cons {base s t : State} {o : Nat} {level : Bool} (rest : List (Nat × Bool))
    (h : exec .sample (sampledAt base o level s) = .next t) : sampleRun base ((o, level) :: rest) s = sampleRun base rest t := by
  rw [sampleRun, h]

theorem inputLevel_sampleRun {base : State} {samples : List (Nat × Bool)} (hsorted : samples.Pairwise (fun a b => a.1 ≤ b.1))
    (hinside : ∀ p ∈ samples, p.1 < base.profile.debounceMs.toNat) {last : Nat} (hlast : ∀ p ∈ samples, last ≤ p.1) {s : State}
    (h : LevelHeld base last s) : (sampleRun base samples s).inputLevel = base.inputLevel := by
  induction samples generalizing last s with
  | nil => exact h.level
  | cons p rest ih =>
    obtain ⟨hfirst, hrest⟩ := List.pairwise_cons.1 hsorted
    obtain ⟨hpinside, hrestinside⟩ := List.forall_mem_cons.1 hinside
    obtain ⟨t, hexec, hheld⟩ := levelHeld_sample p.2 h (hlast p List.mem_cons_self) hpinside
    rw [sampleRun_cons rest hexec]
    exact ih hrest hrestinside hfirst hheld

/-- Settles O36, by induction on the samples: a settled filter holds its level at offset 0. -/
theorem debounceHoldsWithinWindow : Obligations.DebounceHoldsWithinWindow := fun _ _ hinit hsettled hsorted hinside =>
  inputLevel_sampleRun hsorted hinside (fun _ _ => Nat.zero_le _) ⟨hinit, rfl, rfl, .inl hsettled⟩

/-! ### The interlock -/

/-- Rule R49: a disarmed output is at the off level, and the pin is low or, in `SAFE`, released. -/
theorem outputLevel_pinState_of_disarmed {s : State} (h : BlockInv s) (harmed : s.armed = false) :
    s.outputLevel = false ∧ s.pinState = if s.msmState = .safe then .hiZ else .drivenLow := by
  obtain ⟨-, ⟨hm, hpin, -, -, -, hlevel, -⟩ | ⟨hm, hpin, -, -, hlevel, -⟩ | ⟨hm, hpin, -, -, -, hlevel, -⟩ | ⟨-, -, -, ha, -⟩⟩ :=
    outputInv_of_blockInv h
  · exact ⟨hlevel, by rw [hpin, if_pos hm]⟩
  · exact ⟨hlevel, by rw [hpin, if_neg (by simp [hm])]⟩
  · exact ⟨hlevel, by rw [hpin, if_neg (by simp [hm])]⟩
  · simp [harmed] at ha

theorem tick_keeps_mode {s t : State} (h : exec .tick s = .next t) : t.msmState = s.msmState ∧ t.activeModeIndex = s.activeModeIndex := by
  obtain ⟨-, -, -, hmsm, hindex, -⟩ := commandsWriteOnlyTheirElements .tick s t h
  exact ⟨(hmsm (by decide)).1, hindex (by decide)⟩

/-- Rules R195 and R169: after a `TICK` of a blocked block the output is disarmed; outside `RUNNING` it was so before. -/
theorem blocked_tick_leaves_disarmed {s t : State} (hinv : BlockInv s) (hblocked : blocked s = true) (h : exec .tick s = .next t) :
    t.armed = false := by
  by_cases hrun : s.msmState = .running
  · exact blocked_tick_disarms hrun hblocked h
  · obtain ⟨-, -, -, -, ⟨-, hrunning⟩, -⟩ := hinv
    exact tick_keeps_disarmed (by simpa using mt hrunning hrun) h

/-- Settles O37: the `TICK` disarms and keeps the invariants, which then give the level and the pin. -/
theorem interlockDisarmsInOneTick : Obligations.InterlockDisarmsInOneTick := by
  intro s hinv henabled hasserted
  have hblocked : blocked s = true := by rw [blocked_eq, henabled, hasserted, Bool.and_self]
  obtain ⟨t, hcase⟩ := exists_commandCase .tick s
  have harmed := blocked_tick_leaves_disarmed hinv hblocked hcase.exec_eq
  obtain ⟨hlevel, hpin⟩ := outputLevel_pinState_of_disarmed (blockInv_commandCase hinv hcase) harmed
  obtain ⟨hmsm, hindex⟩ := tick_keeps_mode hcase.exec_eq
  exact ⟨t, hcase.exec_eq, harmed, hlevel, hmsm ▸ hpin, hindex, hmsm⟩

end Machine
end Sys2Proof

/-! The ModeStateMachine (`43_mode_state_machine.md`): the state each command leaves, field by field (rules R185 to R196); the states in which
a command would write again what is there already, and so what repeating it leaves (rule R182); the transition table (rule R181). -/
namespace Sys2Proof
namespace Machine

/-! ### What the shared sequences leave, field by field -/

theorem enterStandby_eq (s : State) : enterStandby s = { s with
    pinState := .drivenLow, outputLevel := false, waveformPhase := false, chRunning := runningAfterStop s,
    armed := false, currentFrequencyHz := 0#16, tickArmed := false, expiryArmed := false, remainingMs := 0#32,
    timeoutExpired := false, indicatorHz := 0#16, msmState := .standby,
    pinTrace := s.pinTrace ++ stopEvents s ++ [.setDrivenLow] } := by
  rw [enterStandby, toDrivenLow_eq]; rfl

theorem enterSafe_eq (s : State) : enterSafe s = { s with
    pinState := .hiZ, outputLevel := false, waveformPhase := false, chRunning := runningAfterStop s,
    armed := false, currentFrequencyHz := 0#16, tickArmed := false, expiryArmed := false, remainingMs := 0#32,
    timeoutExpired := false, indicatorHz := 0#16, msmState := .safe,
    pinTrace := s.pinTrace ++ stopEvents s ++ [.setHiZ] } := by
  rw [enterSafe, toHighImpedance_eq]; rfl

theorem disarm_toDrivenLow_eq (s : State) : disarm (toDrivenLow s) = { s with
    pinState := .drivenLow, outputLevel := false, waveformPhase := false, chRunning := runningAfterStop s,
    armed := false, currentFrequencyHz := 0#16, pinTrace := s.pinTrace ++ stopEvents s ++ [.setDrivenLow] } := by
  rw [toDrivenLow_eq]; rfl

theorem selectWaveform_polled {f : Half} {s : State} (hbackend : s.params.waveBackend = .polled) : selectWaveform f s = { s with
    pinState := .activeWaveform, outputLevel := false, waveformPhase := false,
    nextToggleMs := s.nowMs + BitVec.ofNat 32 (halfPeriod s.params (clampFreq s.params f)),
    armed := true, currentFrequencyHz := clampFreq s.params f, msmState := .running,
    pinTrace := s.pinTrace ++ [.waveStop, .waveStart (clampFreq s.params f)] } := by
  rw [selectWaveform, toActiveWaveform_polled _ _ hbackend]; rfl

theorem selectWaveform_channel {f : Half} {s : State} (hbackend : s.params.waveBackend = .channel) : selectWaveform f s = { s with
    pinState := .activeWaveform, outputLevel := false, waveformPhase := false, chRunning := true,
    chFreqHz := clampFreq s.params f, chDuty := 50#8,
    armed := true, currentFrequencyHz := clampFreq s.params f, msmState := .running,
    pinTrace := s.pinTrace ++ stopEvents s ++ [.waveStart (clampFreq s.params f)] } := by
  rw [selectWaveform, toActiveWaveform_channel _ _ hbackend]

/-- Rules R187 and R184: whether the countdown that ends an `APPLY_MODE idx` runs, by the state, the limit flag and the mode's duration. -/
theorem finishMode_eq {idx : Half} {s : State} (hindex : s.activeModeIndex = idx) : finishMode idx s =
    withCountdown
      (decide (s.msmState = .running) && s.limitEnabled && decide (0 < (modeAt s.params idx).defaultTimeoutSeconds.toNat))
      (modeAt s.params idx).defaultTimeoutSeconds { s with indicatorHz := (modeAt s.params idx).indicatorBlinkHz } := by
  subst hindex
  rw [finishMode, startOrRestartCountdown_eq, countdownRuns_eq]

/-- Rule R168: the interlock allows driving while it is disabled or its input is not asserted. -/
theorem blocked_eq_false_iff (s : State) : blocked s = false ↔ s.profile.interlockEnabled = false ∨ s.inputLevel = false := by
  rw [blocked_eq, Bool.and_eq_false_iff]

theorem blocked_eq_true_iff (s : State) : blocked s = true ↔ s.profile.interlockEnabled = true ∧ s.inputLevel = true := by
  rw [blocked_eq, Bool.and_eq_true]

/-! ### An output that is already off

Stopping the waveform and putting the pin where it is already writes the trace and nothing else. This is so after any operation that took the
output away, and by rule R49 in the columns `SAFE` and `STANDBY`. -/

/-- The pin is at `pin`, and there is no waveform that stopping would stop. -/
structure StoppedAt (pin : PinState) (s : State) : Prop where
  pin : s.pinState = pin
  level : s.outputLevel = false
  phase : s.waveformPhase = false
  channel : s.chRunning = runningAfterStop s

/-- Besides, the output is disarmed. -/
structure OutputOffAt (pin : PinState) (s : State) : Prop extends StoppedAt pin s where
  disarmed : s.armed = false
  frequency : s.currentFrequencyHz = 0#16

/-- Rule R126: stopping a second time stops nothing more. -/
theorem runningAfterStop_runningAfterStop (s : State) : runningAfterStop { s with chRunning := runningAfterStop s } = runningAfterStop s := by
  unfold runningAfterStop
  split_ifs <;> rfl

theorem stoppedAt_toDrivenLow (s : State) : StoppedAt .drivenLow (toDrivenLow s) := by
  rw [toDrivenLow_eq]
  exact ⟨rfl, rfl, rfl, (runningAfterStop_runningAfterStop s).symm⟩

theorem stoppedAt_toHighImpedance (s : State) : StoppedAt .hiZ (toHighImpedance s) := by
  rw [toHighImpedance_eq]
  exact ⟨rfl, rfl, rfl, (runningAfterStop_runningAfterStop s).symm⟩

theorem outputOffAt_disarm_toDrivenLow (s : State) : OutputOffAt .drivenLow (disarm (toDrivenLow s)) :=
  { stoppedAt_toDrivenLow s with disarmed := rfl, frequency := rfl }

theorem outputOffAt_disarm_toHighImpedance (s : State) : OutputOffAt .hiZ (disarm (toHighImpedance s)) :=
  { stoppedAt_toHighImpedance s with disarmed := rfl, frequency := rfl }

theorem runningAfterStop_of_not_running {s : State} (h : s.chRunning = false) : runningAfterStop s = false := by
  rw [runningAfterStop, h, ite_self]

theorem stopEvents_of_not_running {s : State} (h : s.chRunning = false) : stopEvents s = [.waveStop] := by
  rw [stopEvents, if_neg (by simp [h])]

theorem outputOffAt_of_outputOff {s : State} (h : OutputOff s) : OutputOffAt s.pinState s := by
  obtain ⟨harmed, hfreq, hlevel, hphase, hch⟩ := h
  exact ⟨⟨rfl, hlevel, hphase, by rw [hch, runningAfterStop_of_not_running hch]⟩, harmed, hfreq⟩

/-- Rule R126: a pin that is low already is driven low again, and only the trace shows it. -/
theorem disarm_toDrivenLow_of_offAt {s : State} (h : OutputOffAt .drivenLow s) :
    disarm (toDrivenLow s) = { s with pinTrace := s.pinTrace ++ stopEvents s ++ [.setDrivenLow] } := by
  simp [disarm_toDrivenLow_eq, h.pin, h.level, h.phase, ← h.channel, h.disarmed, h.frequency]

theorem toHighImpedance_of_stoppedAt {s : State} (h : StoppedAt .hiZ s) :
    toHighImpedance s = { s with pinTrace := s.pinTrace ++ stopEvents s ++ [.setHiZ] } := by
  simp [toHighImpedance_eq, h.pin, h.level, h.phase, ← h.channel]

/-- What the sequence into `STANDBY` finds already done: everything but the indicator. -/
structure StandbyEntered (s : State) : Prop extends OutputOffAt .drivenLow s where
  standby : s.msmState = .standby
  idle : CountdownIdle s

/-- What the sequence into `SAFE` finds already done: everything. -/
structure SafeEntered (s : State) : Prop extends OutputOffAt .hiZ s where
  safe : s.msmState = .safe
  idle : CountdownIdle s
  indicator : s.indicatorHz = 0#16

theorem standbyEntered_enterStandby (s : State) : StandbyEntered (enterStandby s) :=
  { outputOffAt_disarm_toDrivenLow s with standby := rfl, idle := ⟨rfl, rfl, rfl, rfl⟩ }

theorem safeEntered_enterSafe (s : State) : SafeEntered (enterSafe s) :=
  { outputOffAt_disarm_toHighImpedance s with safe := rfl, idle := ⟨rfl, rfl, rfl, rfl⟩, indicator := rfl }

theorem enterStandby_of_entered {s : State} (h : StandbyEntered s) : enterStandby s = { s with
    indicatorHz := 0#16, pinTrace := s.pinTrace ++ stopEvents s ++ [.setDrivenLow] } := by
  obtain ⟨htick, hexpiry, hflag, hremaining⟩ := h.idle
  rw [enterStandby, disarm_toDrivenLow_of_offAt h.toOutputOffAt]
  simp [cancelCountdown, h.standby, htick, hexpiry, hflag, hremaining]

theorem enterSafe_of_entered {s : State} (h : SafeEntered s) : enterSafe s = { s with
    pinTrace := s.pinTrace ++ stopEvents s ++ [.setHiZ] } := by
  obtain ⟨htick, hexpiry, hflag, hremaining⟩ := h.idle
  rw [enterSafe, toHighImpedance_of_stoppedAt h.toStoppedAt]
  simp [disarm, cancelCountdown, h.safe, h.indicator, h.disarmed, h.frequency, htick, hexpiry, hflag, hremaining]

/-- Rule R49 item 2. -/
theorem standbyEntered_of_blockInv {s : State} (h : BlockInv s) (hstandby : s.msmState = .standby) : StandbyEntered s := by
  obtain ⟨-, ⟨hm, -⟩ | ⟨-, hpin, hoff⟩ | ⟨hm, -⟩ | ⟨hm, -⟩⟩ := outputInv_of_blockInv h
  · simp [hstandby] at hm
  · exact { hpin ▸ outputOffAt_of_outputOff hoff with
      standby := hstandby, idle := (countdownInv_of_blockInv h).1 (by simp [hstandby]) }
  · simp [hstandby] at hm
  · simp [hstandby] at hm

/-- Rule R49 items 1 and 3. -/
theorem safeEntered_of_blockInv {s : State} (h : BlockInv s) (hsafe : s.msmState = .safe) : SafeEntered s := by
  obtain ⟨-, ⟨-, hpin, hind, hoff⟩ | ⟨hm, -⟩ | ⟨hm, -⟩ | ⟨hm, -⟩⟩ := outputInv_of_blockInv h
  · exact { hpin ▸ outputOffAt_of_outputOff hoff with
      safe := hsafe, idle := (countdownInv_of_blockInv h).1 (by simp [hsafe]), indicator := hind }
  · simp [hsafe] at hm
  · simp [hsafe] at hm
  · simp [hsafe] at hm

/-- Rule R49 item 9: no channel runs unless the pin has the waveform, so there is no settling delay. -/
theorem stopEvents_of_blockInv {s : State} (h : BlockInv s) (hpin : s.pinState ≠ .activeWaveform) : stopEvents s = [.waveStop] := by
  obtain ⟨-, -, -, -, -, -, -, -, -, hch, -⟩ := h
  exact stopEvents_of_not_running (Bool.eq_false_iff.2 fun hr => hpin (hch.1 hr).2)

/-! ### `POWER_ON`, `POWER_OFF`, `APPLY_PROFILE` -/

/-- Settles O12: the sequence into `STANDBY` from every state; in `STANDBY` it finds everything but the indicator done. -/
theorem powerOnResult : Obligations.PowerOnResult := by
  refine ⟨fun s => ?_, fun s hinv hstandby => ?_⟩
  · rw [CommandCase.powerOn.exec_eq, enterStandby_eq]; rfl
  · have hentered := standbyEntered_of_blockInv hinv hstandby
    have hstop := stopEvents_of_blockInv hinv (by simp [hentered.pin])
    rw [CommandCase.powerOn.exec_eq, enterStandby_of_entered hentered, hstop, List.append_assoc]; rfl

/-- Settles O13: the sequence into `SAFE` from every state; in `SAFE` it finds everything done. -/
theorem powerOffResult : Obligations.PowerOffResult := by
  refine ⟨fun s => ?_, fun s hinv hsafe => ?_⟩
  · rw [CommandCase.powerOff.exec_eq, enterSafe_eq]; rfl
  · have hentered := safeEntered_of_blockInv hinv hsafe
    have hstop := stopEvents_of_blockInv hinv (by simp [hentered.pin])
    rw [CommandCase.powerOff.exec_eq, enterSafe_of_entered hentered, hstop, List.append_assoc]; rfl

/-- Settles O19: the latched profile is written first, and no pin operation reads the profile. -/
theorem applyProfileResult : Obligations.ApplyProfileResult := by
  refine fun s => ⟨fun hsafe => ?_, fun hsafe => ?_⟩
  · rw [(CommandCase.applyProfileSafe hsafe).exec_eq, toHighImpedance_eq]; rfl
  · rw [(CommandCase.applyProfileStandby hsafe).exec_eq, enterStandby_eq]; rfl

/-! ### `APPLY_MODE` -/

/-- Settles O14: the guard of the ignored case, in numbers. -/
theorem applyModeIgnoredResult : Obligations.ApplyModeIgnoredResult := fun idx s hignored =>
  (CommandCase.applyModeIgnored idx (hignored.imp_left (modeExists_eq_false_iff s.params idx).2)).exec_eq

/-- Settles O15: the case leaves `STANDBY`, where the countdown that ends every `APPLY_MODE` is a cancel. -/
theorem applyModeZeroFrequencyResult : Obligations.ApplyModeZeroFrequencyResult := by
  intro idx s m hentry hsafe hfreq
  obtain rfl := modeAt_of_getElem? hentry
  rw [(CommandCase.applyModeNoWave idx (modeExists_of_getElem? hentry) hsafe hfreq).exec_eq, finishMode_eq, selectNoWaveform,
    disarm_toDrivenLow_eq] <;> rfl

/-- Settles O16: the case leaves `RUNNING`, so the countdown runs as the limit flag and the mode's duration say. -/
theorem applyModeBlockedResult : Obligations.ApplyModeBlockedResult := by
  intro idx s m hentry hsafe hfreq henabled hasserted
  obtain rfl := modeAt_of_getElem? hentry
  have hblocked := (blocked_eq_true_iff s).2 ⟨henabled, hasserted⟩
  rw [(CommandCase.applyModeBlocked idx (modeExists_of_getElem? hentry) hsafe hfreq hblocked).exec_eq,
    finishMode_eq, selectBlocked, disarm_toDrivenLow_eq] <;> rfl

/-- Settles O17, by the backend: the started waveform is in `RUNNING`, so the countdown runs as in the blocked case. -/
theorem applyModeWaveformResult : Obligations.ApplyModeWaveformResult := by
  intro idx s m hentry hsafe hfreq hallowed
  obtain rfl := modeAt_of_getElem? hentry
  have hblocked := (blocked_eq_false_iff s).2 hallowed
  rw [(CommandCase.applyModeWave idx (modeExists_of_getElem? hentry) hsafe hfreq hblocked).exec_eq]
  refine ⟨fun hbackend => ?_, fun hbackend => ?_⟩
  · rw [selectWaveform_polled, finishMode_eq]
    exacts [rfl, rfl, hbackend]
  · rw [selectWaveform_channel, finishMode_eq]
    exacts [rfl, rfl, hbackend]

/-! ### `SET_LIMIT` -/

/-- Settles O18: a restart is in `RUNNING` with the flag just set, so it runs exactly if the active mode has a duration. -/
theorem setLimitResult : Obligations.SetLimitResult := by
  refine fun b s => ⟨fun hkeep => ?_, fun hrun hset hb => ?_, fun m hentry hrun hclear hb => ?_⟩
  · exact (CommandCase.setLimitStored b hkeep).exec_eq
  · subst hb
    rw [(CommandCase.setLimitCancelled hrun hset).exec_eq, cancelCountdown_eq 0#16]; rfl
  · subst hb
    obtain rfl := modeAt_of_getElem? hentry
    rw [(CommandCase.setLimitRestarted hrun hclear).exec_eq, startOrRestartCountdown_eq, countdownRuns_eq]
    simp only [hrun, decide_true, Bool.true_and]
    rfl

/-! ### `TICK` and `DRAIN_EXPIRY` -/

/-- Settles O21, by the cases of rule R195: trip, repeated cancel, a generator tick that is due or waits, nothing. -/
theorem tickResult : Obligations.TickResult := by
  refine fun s => ⟨fun hrun henabled hasserted harmed => ?_, fun hrun henabled hasserted harmed => ?_,
    fun hallowed hrun hpin hbackend => ?_, fun hidle => ?_⟩
  · rw [(CommandCase.tickTrip ((blocked_eq_true_iff s).2 ⟨henabled, hasserted⟩) hrun harmed).exec_eq, tripOutput, disarm_toDrivenLow_eq]
    rfl
  · exact (CommandCase.tickTripped ((blocked_eq_true_iff s).2 ⟨henabled, hasserted⟩) hrun harmed).exec_eq
  · rw [(CommandCase.tickWave ((blocked_eq_false_iff s).2 hallowed) hrun hpin hbackend).exec_eq]
    refine ⟨fun hdue => ?_, fun hwaiting => ?_⟩
    · rw [genTick_due hdue]; rfl
    · rw [genTick_waiting hwaiting]; rfl
  · refine (CommandCase.tickIdle (hidle.imp_right fun ⟨hallowed, hother⟩ => ⟨(blocked_eq_false_iff s).2 hallowed, ?_⟩)).exec_eq
    rintro ⟨hpin, hbackend⟩
    obtain hnot | hchannel := hother
    · exact hnot hpin
    · simp [hbackend] at hchannel

/-- Settles O22: a set flag in `RUNNING` is one of the two sequences into `ON_EXPIRY_TARGET`. -/
theorem drainExpiryResult : Obligations.DrainExpiryResult := by
  refine fun s => ⟨fun hflag => ?_, fun hflag hrun => ?_, fun hflag hrun htarget => ?_, fun hflag hrun htarget => ?_⟩
  · exact (CommandCase.drainClear hflag).exec_eq
  · exact (CommandCase.drainFlagOnly hflag hrun).exec_eq
  · rw [(CommandCase.drainToStandby hflag hrun htarget).exec_eq, enterStandby_eq]; rfl
  · rw [(CommandCase.drainToSafe hflag hrun htarget).exec_eq, enterSafe_eq]; rfl

/-! ### Repeated mode commands -/

theorem executed_of_reported {s : State} (h : s.cmdIgnored = false) : executed s = s := by
  rw [executed, ← h]

/-- Rule R182: after a command of the sequence into `STANDBY`, the same sequence writes only the trace, however late. -/
theorem enterStandby_again (s : State) (now : Word) : ∃ trace, executed (enterStandby { executed (enterStandby s) with nowMs := now }) =
    { executed (enterStandby s) with nowMs := now, pinTrace := trace } := by
  have hentered : StandbyEntered { executed (enterStandby s) with nowMs := now } :=
    { standbyEntered_enterStandby s with }
  exact ⟨_, by rw [enterStandby_of_entered hentered]; rfl⟩

theorem enterSafe_again (s : State) (now : Word) : ∃ trace, executed (enterSafe { executed (enterSafe s) with nowMs := now }) =
    { executed (enterSafe s) with nowMs := now, pinTrace := trace } := by
  have hentered : SafeEntered { executed (enterSafe s) with nowMs := now } :=
    { safeEntered_enterSafe s with }
  exact ⟨_, by rw [enterSafe_of_entered hentered]; rfl⟩

theorem toHighImpedance_again (s : State) (now : Word) :
    ∃ trace, executed (toHighImpedance { executed (toHighImpedance s) with nowMs := now }) =
      { executed (toHighImpedance s) with nowMs := now, pinTrace := trace } := by
  have hstopped : StoppedAt .hiZ { executed (toHighImpedance s) with nowMs := now } := { stoppedAt_toHighImpedance s with }
  exact ⟨_, by rw [toHighImpedance_of_stoppedAt hstopped]; rfl⟩

/-- Rule R193: a `SET_LIMIT` with the value that the flag has writes nothing but the report. -/
theorem exec_setLimit_again {b : Bool} {s : State} (hlimit : s.limitEnabled = b) (hreport : s.cmdIgnored = false) :
    exec (.setLimit b) s = .next s := by
  subst hlimit
  rw [(CommandCase.setLimitStored _ (.inr rfl)).exec_eq]
  exact congrArg _ (executed_of_reported hreport)

theorem limitEnabled_of_setLimit {b : Bool} {s t : State} (h : CommandCase s (.setLimit b) t) : t.limitEnabled = b := by
  cases h with
  | setLimitStored | setLimitCancelled => rfl
  | setLimitRestarted => exact startOrRestartCountdown_limitEnabled _

theorem activeModeIndex_selectWaveform (f : Half) (s : State) : (selectWaveform f s).activeModeIndex = s.activeModeIndex := by
  simp [selectWaveform]

/-- The waveform of frequency `f` is armed and at its start at `now_ms` (rules R189 and R124). -/
structure WaveStarted (f : Half) (s : State) : Prop where
  running : s.msmState = .running
  pin : s.pinState = .activeWaveform
  armed : s.armed = true
  frequency : s.currentFrequencyHz = clampFreq s.params f
  level : s.outputLevel = false
  phase : s.waveformPhase = false
  polled : s.params.waveBackend = .polled → s.nextToggleMs = s.nowMs + BitVec.ofNat 32 (halfPeriod s.params (clampFreq s.params f))
  channel : s.params.waveBackend = .channel → s.chRunning = true ∧ s.chFreqHz = clampFreq s.params f ∧ s.chDuty = 50#8

theorem waveStarted_selectWaveform (f : Half) (s : State) : WaveStarted f (selectWaveform f s) := by
  cases hb : s.params.waveBackend with
  | polled =>
    rw [selectWaveform_polled hb]
    exact ⟨rfl, rfl, rfl, rfl, rfl, rfl, fun _ => rfl, fun hc => by simp [hb] at hc⟩
  | channel =>
    rw [selectWaveform_channel hb]
    exact ⟨rfl, rfl, rfl, rfl, rfl, rfl, fun hp => by simp [hb] at hp, fun _ => ⟨rfl, rfl, rfl⟩⟩

/-- Rule R182: a waveform at its start is started again at the same time, and only the trace shows it. -/
theorem selectWaveform_of_started {f : Half} {s : State} (h : WaveStarted f s) :
    ∃ trace, selectWaveform f s = { s with pinTrace := trace } := by
  cases hb : s.params.waveBackend with
  | polled =>
    refine ⟨s.pinTrace ++ [.waveStop, .waveStart (clampFreq s.params f)], ?_⟩
    simp [selectWaveform_polled hb, h.running, h.pin, h.armed, h.frequency, h.level, h.phase, h.polled hb]
  | channel =>
    obtain ⟨hrun, hfreq, hduty⟩ := h.channel hb
    refine ⟨s.pinTrace ++ stopEvents s ++ [.waveStart (clampFreq s.params f)], ?_⟩
    simp [selectWaveform_channel hb, h.running, h.pin, h.armed, h.frequency, h.level, h.phase, hrun, hfreq, hduty]

/-- What the end of an `APPLY_MODE idx` finds already done, whatever the trace: the index, the indicator, the countdown and the report. -/
structure ModeFinished (idx : Half) (s : State) : Prop where
  index : s.activeModeIndex = idx
  finish : ∀ trace, executed (finishMode idx { s with pinTrace := trace }) = { s with pinTrace := trace }

/-- Rule R184: a countdown started twice at one time is the countdown started once. -/
theorem modeFinished_finishMode {idx : Half} {s : State} (hindex : s.activeModeIndex = idx) :
    ModeFinished idx (executed (finishMode idx s)) := by
  rw [finishMode_eq hindex]
  refine ⟨hindex, fun trace => ?_⟩
  rw [finishMode_eq (by exact hindex)]
  simp only [withCountdown, executed]
  split_ifs <;> rfl

theorem finishMode_msmState (idx : Half) (s : State) : (executed (finishMode idx s)).msmState = s.msmState :=
  startOrRestartCountdown_msmState _

theorem outputOffAt_finishMode {pin : PinState} {s : State} (idx : Half) (h : OutputOffAt pin s) :
    OutputOffAt pin (executed (finishMode idx s)) := by
  rw [finishMode, startOrRestartCountdown_eq]
  exact { h with }

theorem waveStarted_finishMode {f : Half} {s : State} (idx : Half) (h : WaveStarted f s) :
    WaveStarted f (executed (finishMode idx s)) := by
  rw [finishMode, startOrRestartCountdown_eq]
  exact { h with }

/-- Where the end of an `APPLY_MODE idx` finds its work done and so does its output side, the whole command does. -/
theorem finishMode_select_again {idx : Half} {s : State} {select : State → State} (hfinished : ModeFinished idx s)
    (hselect : ∃ trace, select s = { s with pinTrace := trace }) :
    ∃ trace, executed (finishMode idx (select { s with activeModeIndex := idx })) = { s with pinTrace := trace } := by
  obtain ⟨rfl, hfinish⟩ := hfinished
  obtain ⟨trace, hselect⟩ := hselect
  exact ⟨trace, (congrArg (fun u => executed (finishMode s.activeModeIndex u)) hselect).trans (hfinish trace)⟩

theorem applyMode_noWave_again {idx : Half} {s : State} (hidx : modeExists s.params idx = true)
    (hfreq : (modeAt s.params idx).frequencyHz = 0#16) (hfinished : ModeFinished idx s) (hoff : OutputOffAt .drivenLow s)
    (hstandby : s.msmState = .standby) : ∃ trace, exec (.applyMode idx) s = .next { s with pinTrace := trace } := by
  have hselect : selectNoWaveform s = { s with pinTrace := s.pinTrace ++ stopEvents s ++ [.setDrivenLow] } := by
    rw [selectNoWaveform, disarm_toDrivenLow_of_offAt hoff, ← hstandby]
  obtain ⟨trace, hagain⟩ := finishMode_select_again hfinished ⟨_, hselect⟩
  exact ⟨trace, by rw [(CommandCase.applyModeNoWave idx hidx (by simp [hstandby]) hfreq).exec_eq, hagain]⟩

theorem applyMode_blocked_again {idx : Half} {s : State} (hidx : modeExists s.params idx = true)
    (hfreq : (modeAt s.params idx).frequencyHz ≠ 0#16) (hblocked : blocked s = true) (hfinished : ModeFinished idx s)
    (hoff : OutputOffAt .drivenLow s) (hrun : s.msmState = .running) :
    ∃ trace, exec (.applyMode idx) s = .next { s with pinTrace := trace } := by
  have hselect : selectBlocked s = { s with pinTrace := s.pinTrace ++ stopEvents s ++ [.setDrivenLow] } := by
    rw [selectBlocked, disarm_toDrivenLow_of_offAt hoff, ← hrun]
  obtain ⟨trace, hagain⟩ := finishMode_select_again hfinished ⟨_, hselect⟩
  exact ⟨trace, by rw [(CommandCase.applyModeBlocked idx hidx (by simp [hrun]) hfreq hblocked).exec_eq, hagain]⟩

theorem applyMode_wave_again {idx : Half} {s : State} (hidx : modeExists s.params idx = true)
    (hfreq : (modeAt s.params idx).frequencyHz ≠ 0#16) (hblocked : blocked s = false) (hfinished : ModeFinished idx s)
    (hwave : WaveStarted (modeAt s.params idx).frequencyHz s) :
    ∃ trace, exec (.applyMode idx) s = .next { s with pinTrace := trace } := by
  obtain ⟨trace, hagain⟩ := finishMode_select_again hfinished (selectWaveform_of_started hwave)
  exact ⟨trace, by rw [(CommandCase.applyModeWave idx hidx (by simp [hwave.running]) hfreq hblocked).exec_eq, hagain]⟩

/-- Rule R53: an `APPLY_MODE` changes neither the mode table nor what blocks it. -/
theorem applyMode_keeps {idx : Half} {s t : State} (h : CommandCase s (.applyMode idx) t) :
    t.params = s.params ∧ blocked t = blocked s := by
  obtain ⟨hinput, -, -, -, -, -, -, hprofile, -, -, -, hparams, -⟩ := commandsWriteOnlyTheirElements _ s t h.exec_eq
  exact ⟨hparams, by rw [blocked_eq, blocked_eq, hprofile (by simp [mnemonicOf]), (hinput (by simp [mnemonicOf])).1]⟩

/-- Rules R182 and R126: the second `APPLY_MODE` takes the case of the first, and finds its work done. -/
theorem applyMode_again {idx : Half} {s t : State} (hcase : CommandCase s (.applyMode idx) t) :
    ∃ trace, exec (.applyMode idx) t = .next { t with pinTrace := trace } := by
  obtain ⟨hparams, hinterlock⟩ := applyMode_keeps hcase
  cases hcase with
  | applyModeIgnored _ hig => exact ⟨_, (CommandCase.applyModeIgnored (s := ignoreCommand s) idx hig).exec_eq⟩
  | applyModeNoWave _ hidx hsafe hfreq =>
    rw [← hparams] at hidx hfreq
    exact applyMode_noWave_again hidx hfreq (modeFinished_finishMode rfl)
      (outputOffAt_finishMode idx { outputOffAt_disarm_toDrivenLow _ with }) (finishMode_msmState idx _)
  | applyModeBlocked _ hidx hsafe hfreq hblocked =>
    rw [← hparams] at hidx hfreq
    exact applyMode_blocked_again hidx hfreq (hinterlock.trans hblocked) (modeFinished_finishMode rfl)
      (outputOffAt_finishMode idx { outputOffAt_disarm_toDrivenLow _ with }) (finishMode_msmState idx _)
  | applyModeWave _ hidx hsafe hfreq hblocked =>
    have hwave := waveStarted_finishMode idx (waveStarted_selectWaveform (modeAt s.params idx).frequencyHz { s with activeModeIndex := idx })
    rw [← hparams] at hidx hfreq
    exact applyMode_wave_again hidx hfreq (hinterlock.trans hblocked)
      (modeFinished_finishMode (activeModeIndex_selectWaveform _ _)) (by rwa [hparams])

/-- Settles O35: each command leaves a state in which it finds its work done. -/
theorem repeatedCommandsAreIdempotent : Obligations.RepeatedCommandsAreIdempotent := by
  refine ⟨fun idx s t hexec => applyMode_again (exec_eq_next_iff.1 hexec), fun i s t now hi hexec => ?_⟩
  have hcase := exec_eq_next_iff.1 hexec
  obtain rfl | rfl | rfl | ⟨b, rfl⟩ := hi
  · cases hcase
    obtain ⟨trace, hagain⟩ := enterStandby_again s now
    exact ⟨trace, by rw [CommandCase.powerOn.exec_eq, hagain]⟩
  · cases hcase
    obtain ⟨trace, hagain⟩ := enterSafe_again s now
    exact ⟨trace, by rw [CommandCase.powerOff.exec_eq, hagain]⟩
  · cases hcase with
    | applyProfileSafe hsafe =>
      obtain ⟨trace, hagain⟩ := toHighImpedance_again { s with profile := latchedProfile s.params s.staged } now
      refine ⟨trace, (CommandCase.applyProfileSafe ?_).exec_eq.trans (congrArg _ hagain)⟩
      exact hsafe
    | applyProfileStandby hsafe =>
      obtain ⟨trace, hagain⟩ := enterStandby_again { s with profile := latchedProfile s.params s.staged } now
      refine ⟨trace, (CommandCase.applyProfileStandby ?_).exec_eq.trans (congrArg _ hagain)⟩
      simp [enterStandby]
  · have hreport : t.cmdIgnored = false := (cmdIgnored_of_commandCase hcase).resolve_left (by simp)
    have hlimit : t.limitEnabled = b := limitEnabled_of_setLimit hcase
    exact ⟨t.pinTrace, exec_setLimit_again (s := { t with nowMs := now }) hlimit hreport⟩

/-! ### The transition table -/

theorem applyMode_transition {idx : Half} {s t : State} (h : CommandCase s (.applyMode idx) t) :
    if s.msmState = .safe ∨ s.params.modes.length ≤ idx.toNat then t.msmState = s.msmState ∧ t.armed = s.armed
    else if (modeAt s.params idx).frequencyHz = 0#16 then t.msmState = .standby
    else t.msmState = .running ∧ t.armed = !(s.profile.interlockEnabled && s.inputLevel) := by
  have haccepted (hidx : modeExists s.params idx = true) (hsafe : s.msmState ≠ .safe) :
      ¬ (s.msmState = .safe ∨ s.params.modes.length ≤ idx.toNat) := by
    rw [modeExists_iff] at hidx
    simp [hsafe, hidx]
  rw [← blocked_eq]
  cases h with
  | applyModeIgnored _ hig =>
    rw [modeExists_eq_false_iff] at hig
    rw [if_pos hig.symm]
    exact ⟨rfl, rfl⟩
  | applyModeNoWave _ hidx hsafe hfreq =>
    rw [if_neg (haccepted hidx hsafe), if_pos hfreq]
    exact finishMode_msmState idx _
  | applyModeBlocked _ hidx hsafe hfreq hblocked =>
    rw [if_neg (haccepted hidx hsafe), if_neg hfreq, hblocked]
    exact ⟨finishMode_msmState idx _, startOrRestartCountdown_armed _⟩
  | applyModeWave _ hidx hsafe hfreq hblocked =>
    rw [if_neg (haccepted hidx hsafe), if_neg hfreq, hblocked]
    exact ⟨finishMode_msmState idx _, startOrRestartCountdown_armed _⟩

theorem applyProfile_transition {s t : State} (h : CommandCase s .applyProfile t) :
    t.msmState = if s.msmState = .safe then .safe else .standby := by
  cases h with
  | applyProfileSafe hsafe => rw [if_pos hsafe]; exact hsafe
  | applyProfileStandby hsafe => rw [if_neg hsafe]; rfl

/-- Rule R181: `TICK` moves only from the armed sub-state of `RUNNING` to the blocked one. -/
theorem tick_transition {s t : State} (h : CommandCase s .tick t) : t.msmState = s.msmState ∧
    t.armed = (s.armed && !(decide (s.msmState = .running) && (s.profile.interlockEnabled && s.inputLevel))) := by
  refine ⟨(tick_keeps_mode h.exec_eq).1, ?_⟩
  rw [← blocked_eq]
  cases h with
  | tickTrip hblocked hrun => simp [tripOutput, hblocked, hrun]
  | tickTripped hblocked hrun harmed => simp [harmed]
  | tickWave hblocked => simp [hblocked]
  | tickIdle hidle =>
    obtain hrun | ⟨hblocked, -⟩ := hidle
    · simp [hrun]
    · simp [hblocked]

theorem drainExpiry_transition {s t : State} (h : CommandCase s .drainExpiry t) :
    if s.timeoutExpired = true ∧ s.msmState = .running
    then t.msmState = (match s.params.onExpiryTarget with | .standby => .standby | .safe => .safe)
    else t.msmState = s.msmState ∧ t.armed = s.armed := by
  cases h with
  | drainClear hflag => rw [if_neg (by simp [hflag])]; exact ⟨rfl, rfl⟩
  | drainFlagOnly hflag hrun => rw [if_neg fun hboth => hrun hboth.2]; exact ⟨rfl, rfl⟩
  | drainToStandby hflag hrun htarget => rw [if_pos ⟨hflag, hrun⟩, htarget]; rfl
  | drainToSafe hflag hrun htarget => rw [if_pos ⟨hflag, hrun⟩, htarget]; rfl

/-- Rule R53: the commands without a row of their own in the table. -/
theorem mode_armed_unchanged {i : Instr} {s t : State} (h : exec i s = .next t)
    (hi : mnemonicOf i ∈ ["SET_LIMIT", "SAMPLE", "BUILD_SET_SPEED"]) : t.msmState = s.msmState ∧ t.armed = s.armed := by
  obtain ⟨-, -, houtput, hmode, -⟩ := commandsWriteOnlyTheirElements i s t h
  have hwriter : ∀ name ∈ ["SET_LIMIT", "SAMPLE", "BUILD_SET_SPEED"],
      name ∉ ["POWER_ON", "POWER_OFF", "APPLY_MODE", "APPLY_PROFILE", "TICK", "DRAIN_EXPIRY"] ∧
      name ∉ ["POWER_ON", "POWER_OFF", "APPLY_MODE", "APPLY_PROFILE", "DRAIN_EXPIRY"] := by decide
  obtain ⟨hnotOutput, hnotMode⟩ := hwriter _ hi
  exact ⟨(hmode hnotMode).1, (houtput hnotOutput).2.1⟩

/-- Settles O41, row by row; the timer context fires lines and advances time. -/
theorem transitionTable : Obligations.TransitionTable := by
  refine ⟨fun i s t hexec => ?_, fun s => ⟨?_, ?_, rfl⟩⟩
  · have hcase := exec_eq_next_iff.1 hexec
    cases i with
    | powerOn => cases hcase; rfl
    | powerOff => cases hcase; rfl
    | applyMode idx => exact applyMode_transition hcase
    | applyProfile => exact applyProfile_transition hcase
    | tick => exact tick_transition hcase
    | drainExpiry => exact drainExpiry_transition hcase
    | setLimit b => exact mode_armed_unchanged hexec (by simp [mnemonicOf])
    | sample => exact mode_armed_unchanged hexec (by simp [mnemonicOf])
    | buildSetSpeed rpm => exact mode_armed_unchanged hexec (by simp [mnemonicOf])
  · rw [tickTurn, apply_ite State.msmState, tickFire, ite_self]
  · rw [expiryTurn, apply_ite State.msmState, expiryFire, ite_self]

end Machine
end Sys2Proof

/-! The countdown timer (`44_countdown_timer.md`): the two lines and their turns (rules R231 to R233), a pulse of the time base (rules R235
and R236), two lines due together (rule R237), the way of a countdown from its deadline to the drain (rule R238), and the staircase of the
display counter (rule R234). -/
namespace Sys2Proof
namespace Machine

/-! ### The turn of a line -/

section LineTurns
variable {s : State} {rest : List Event} (hvalid : s.params.valid = true) (hrst : s.rst = false)
include hvalid hrst

theorem step_tickFire_due (hinbox : s.inbox = .tickFire :: rest) (hdue : tickDue s = true) :
    step s = .next (tickFire (consumed rest s)) := by
  rw [step_takes_event hvalid hrst hinbox]
  exact congrArg _ (if_pos (c := tickDue s = true) hdue)

theorem step_tickFire_not_due (hinbox : s.inbox = .tickFire :: rest) (hdue : ¬ tickDue s = true) : step s = .next (consumed rest s) := by
  rw [step_takes_event hvalid hrst hinbox]
  exact congrArg _ (if_neg (c := tickDue s = true) hdue)

theorem step_expiryFire_due (hinbox : s.inbox = .expiryFire :: rest) (hdue : expiryDue s = true) :
    step s = .next (expiryFire (consumed rest s)) := by
  rw [step_takes_event hvalid hrst hinbox]
  exact congrArg _ (if_pos (c := expiryDue s = true) hdue)

theorem step_expiryFire_not_due (hinbox : s.inbox = .expiryFire :: rest) (hdue : ¬ expiryDue s = true) :
    step s = .next (consumed rest s) := by
  rw [step_takes_event hvalid hrst hinbox]
  exact congrArg _ (if_neg (c := expiryDue s = true) hdue)

end LineTurns

/-- The elements a firing of the tick line writes, in numbers (rule R232). -/
theorem tickFire_eq (s : State) : tickFire s = { s with
    remainingMs := BitVec.ofNat 32 (s.remainingMs.toNat - 1000), tickNextMs := s.tickNextMs + 1000#32 } := by
  rw [tickFire, satSub1000_eq_ofNat]; rfl

/-- Settles O24: the line's turn is a firing, since it is due. -/
theorem tickLineFiring : Obligations.TickLineFiring := by
  intro s rest hvalid hrst hinbox harmed hnow
  rw [step_tickFire_due hvalid hrst hinbox ((tickDue_iff s).2 ⟨harmed, hnow⟩), tickFire_eq]; rfl

/-- Settles O25: the line's turn is a firing, since it is due. -/
theorem expiryLineFiring : Obligations.ExpiryLineFiring := fun s _ hvalid hrst hinbox harmed hnow =>
  step_expiryFire_due hvalid hrst hinbox ((expiryDue_iff s).2 ⟨harmed, hnow⟩)

/-- Settles O26: disarmed or at another time, a line is not due. -/
theorem lineNotDueDoesNotFire : Obligations.LineNotDueDoesNotFire := by
  refine fun s rest hvalid hrst => ⟨fun hinbox hnot => ?_, fun hinbox hnot => ?_⟩
  · exact step_tickFire_not_due hvalid hrst hinbox (by rwa [tickDue_iff, not_and_or, Bool.not_eq_true])
  · exact step_expiryFire_not_due hvalid hrst hinbox (by rwa [expiryDue_iff, not_and_or, Bool.not_eq_true])

/-! ### Two lines due together -/

/-- Rule R237: the two firings write different elements and neither reads what the other writes. -/
theorem expiryFire_tickFire (s : State) : expiryFire (tickFire s) = tickFire (expiryFire s) := rfl

theorem core_run_two {s t u : State} (hfirst : step s = .next t) (hsecond : step t = .next u) : core.run 2 s = .next u :=
  (core_run_succ hfirst).trans (core_run_succ hsecond)

section BothDue
variable {s : State} (rest : List Event) (hvalid : s.params.valid = true) (hrst : s.rst = false) (htick : tickDue s = true)
  (hexpiry : expiryDue s = true)
include hvalid hrst htick hexpiry

/-- The expiry line is still due after the tick line has fired. -/
theorem run_tickFire_expiryFire : core.run 2 { s with inbox := .tickFire :: .expiryFire :: rest } =
    .next (expiryFire (tickFire (bookedWith rest (s.draws + 2) s))) :=
  core_run_two (step_tickFire_due (s := { s with inbox := .tickFire :: .expiryFire :: rest }) hvalid hrst rfl htick)
    (step_expiryFire_due (s := tickFire (bookedWith (.expiryFire :: rest) (s.draws + 1) s)) hvalid hrst rfl hexpiry)

/-- The tick line is still due after the expiry line has fired. -/
theorem run_expiryFire_tickFire : core.run 2 { s with inbox := .expiryFire :: .tickFire :: rest } =
    .next (tickFire (expiryFire (bookedWith rest (s.draws + 2) s))) :=
  core_run_two (step_expiryFire_due (s := { s with inbox := .expiryFire :: .tickFire :: rest }) hvalid hrst rfl hexpiry)
    (step_tickFire_due (s := expiryFire (bookedWith (.tickFire :: rest) (s.draws + 1) s)) hvalid hrst rfl htick)

end BothDue

/-- Settles O28: the two firings commute. -/
theorem bothLinesInEitherOrder : Obligations.BothLinesInEitherOrder := by
  intro s rest hvalid hrst htick hexpiry
  rw [run_tickFire_expiryFire rest hvalid hrst htick hexpiry, run_expiryFire_tickFire rest hvalid hrst htick hexpiry, expiryFire_tickFire]
  refine ⟨rfl, ?_⟩
  rw [tickFire_eq]; rfl

/-! ### A pulse of the time base -/

theorem fireDueLine_keeps {s : State} (tickFirst : Bool) (hdue : lineDue s = true) :
    (fireDueLine tickFirst s).params = s.params ∧ (fireDueLine tickFirst s).rst = s.rst ∧
    (fireDueLine tickFirst s).nowMs = s.nowMs := by
  obtain ⟨-, hfire⟩ | ⟨-, hfire⟩ := fireDueLine_cases tickFirst hdue
  · rw [hfire]; exact ⟨rfl, rfl, rfl⟩
  · rw [hfire]; exact ⟨rfl, rfl, rfl⟩

/-- How many lines are due. -/
def dueLines (s : State) : Nat := (tickDue s).toNat + (expiryDue s).toNat

theorem dueLines_le_two (s : State) : dueLines s ≤ 2 :=
  Nat.add_le_add (tickDue s).toNat_le (expiryDue s).toNat_le

theorem dueLines_pos {s : State} (hdue : lineDue s = true) : 0 < dueLines s := by
  rw [lineDue, Bool.or_eq_true] at hdue
  obtain htick | hexpiry := hdue
  · simp [dueLines, htick]
  · simp [dueLines, hexpiry]

/-- A line that has fired is not due again, and the other one is due as before. -/
theorem dueLines_fireDueLine {s : State} (tickFirst : Bool) (hdue : lineDue s = true) :
    dueLines (fireDueLine tickFirst s) + 1 = dueLines s := by
  obtain ⟨htick, hfire⟩ | ⟨hexpiry, hfire⟩ := fireDueLine_cases tickFirst hdue
  · simp [hfire, dueLines, tickDue_after_tickFire htick, expiryDue_tickFire, htick, Nat.add_comm]
  · simp [hfire, dueLines, expiryDue_after_expiryFire, tickDue_expiryFire, hexpiry]

section Pulse
variable {s : State} {rest : List Event} {tickFirst : Bool} (hvalid : s.params.valid = true) (hrst : s.rst = false)
  (hinbox : s.inbox = .msPulse tickFirst :: rest)
include hvalid hrst hinbox

/-- Rule R235. -/
theorem step_pulse_taken (hidle : lineDue s = false) : step s = .next (timeAdvance (consumed rest s)) := by
  rw [step_takes_event hvalid hrst hinbox]
  exact congrArg _ (if_neg (c := lineDue s = true) (ne_true_of_eq_false hidle))

/-- Rule R236: a line fires and the pulse stays pending. -/
theorem step_pulse_waits (hdue : lineDue s = true) : step s = .next (bookedWith s.inbox (s.draws + 1) (fireDueLine tickFirst s)) := by
  have hpulse : pulse tickFirst (consumed rest s) = keepPending (.msPulse tickFirst) (fireDueLine tickFirst (consumed rest s)) :=
    if_pos (c := lineDue s = true) hdue
  have hfire : fireDueLine tickFirst (consumed rest s) = bookedWith rest (s.draws + 1) (fireDueLine tickFirst s) :=
    fireDueLine_bookedWith tickFirst rest (s.draws + 1) s
  rw [step_takes_event hvalid hrst hinbox, takeEvent, hpulse, hfire, hinbox]; rfl

end Pulse

/-- Rule R236: a pulse is taken after as many firings as lines are due, by induction on their number. -/
theorem pulse_taken_after_dueLines {rest : List Event} {tickFirst : Bool} (k : Nat) : ∀ s : State, dueLines s = k →
    s.params.valid = true → s.rst = false → s.inbox = .msPulse tickFirst :: rest →
    ∃ t, core.run (k + 1) s = .next t ∧ t.nowMs = s.nowMs + 1#32 ∧ t.inbox = rest := by
  induction k with
  | zero =>
    intro s hcount hvalid hrst hinbox
    have hidle : lineDue s = false := Bool.eq_false_iff.2 fun hdue => (dueLines_pos hdue).ne' hcount
    exact ⟨_, core_run_succ (step_pulse_taken hvalid hrst hinbox hidle), rfl, rfl⟩
  | succ k ih =>
    intro s hcount hvalid hrst hinbox
    have hdue : lineDue s = true := by
      by_contra hidle
      obtain ⟨htick, hexpiry⟩ := (lineDue_eq_false s).1 (Bool.eq_false_iff.2 hidle)
      simp [dueLines, htick, hexpiry] at hcount
    have hfewer : dueLines (fireDueLine tickFirst s) = k := Nat.succ.inj ((dueLines_fireDueLine tickFirst hdue).trans hcount)
    obtain ⟨hparams, hrstKept, hnow⟩ := fireDueLine_keeps tickFirst hdue
    obtain ⟨t, hrun, htime, hrest⟩ := ih (bookedWith s.inbox (s.draws + 1) (fireDueLine tickFirst s)) hfewer
      ((congrArg Params.valid hparams).trans hvalid) (hrstKept.trans hrst) hinbox
    exact ⟨t, (core_run_succ (step_pulse_waits hvalid hrst hinbox hdue)).trans hrun, htime.trans (congrArg (· + 1#32) hnow), hrest⟩

/-- Settles O27: the pulse is taken or waits, and it waits for the lines that are due now. -/
theorem timePassesOnlyWhenNothingIsDue : Obligations.TimePassesOnlyWhenNothingIsDue := by
  refine fun s rest tickFirst hvalid hrst hinbox =>
    ⟨fun hidle => step_pulse_taken hvalid hrst hinbox hidle, fun hdue => ?_, ?_⟩
  · obtain ⟨-, -, hnow⟩ := fireDueLine_keeps tickFirst hdue
    exact ⟨_, step_pulse_waits hvalid hrst hinbox hdue, hnow, rfl⟩
  · obtain ⟨t, ht⟩ := pulse_taken_after_dueLines (dueLines s) s rfl hvalid hrst hinbox
    exact ⟨dueLines s, t, dueLines_le_two s, ht⟩

/-! ### From an armed expiry line to the set flag -/

/-- Rules R235 and R236: with nothing pending a step is time passing. -/
theorem step_own {s : State} (hvalid : s.params.valid = true) (hrst : s.rst = false) (hinbox : s.inbox = []) :
    step s = .next (bookedWith s.inbox (s.draws + 1) (timePasses (Config.tickLineFirst s.draws) s)) := by
  rw [step_valid hvalid, nextStep_nil hinbox, ownStep, if_neg (ne_true_of_eq_false hrst)]
  exact congrArg _ (timePasses_bookedWith _ s.inbox (s.draws + 1) s)

/-- How many steps an armed expiry line can still be away from having fired: in each millisecond to come a firing of the tick line and the
advance, a firing of the tick line now, and the line's own firing. -/
def expiryTurns (s : State) : Nat := 2 * expiryLeft s + (tickDue s).toNat + 1

theorem expiryTurns_le (s : State) : expiryTurns s ≤ 2 * expiryLeft s + 2 :=
  Nat.succ_le_succ (Nat.add_le_add_left (tickDue s).toNat_le _)

theorem expiryTurns_tickFire {s : State} (hdue : tickDue s = true) : expiryTurns (tickFire s) < expiryTurns s := by
  have hleft : expiryLeft (tickFire s) = expiryLeft s := rfl
  simp [expiryTurns, hleft, tickDue_after_tickFire hdue, hdue]

theorem expiryTurns_timeAdvance {s : State} (hnow : s.nowMs ≠ s.expiryDeadlineMs) : expiryTurns (timeAdvance s) < expiryTurns s := by
  have hleft : expiryLeft (timeAdvance s) + 1 = expiryLeft s := toNat_sub_succ hnow
  have hbound := expiryTurns_le (timeAdvance s)
  rw [expiryTurns.eq_def s]
  omega

/-- Rules R233 and R236: whichever line is first, time passing makes the expiry line fire at its deadline or brings its firing nearer. -/
theorem timePasses_towards_expiry {s : State} (tickFirst : Bool) (harmed : s.expiryArmed = true) :
    (s.nowMs = s.expiryDeadlineMs ∧ timePasses tickFirst s = expiryFire s) ∨
    ((timePasses tickFirst s).expiryArmed = true ∧ expiryTurns (timePasses tickFirst s) < expiryTurns s) := by
  obtain ⟨hdue, hpass⟩ | ⟨hdue, hpass⟩ | ⟨-, hnot, hpass⟩ := timePasses_cases tickFirst s
  · rw [hpass]; exact .inr ⟨harmed, expiryTurns_tickFire hdue⟩
  · exact .inl ⟨((expiryDue_iff s).1 hdue).2, hpass⟩
  · have hnow : s.nowMs ≠ s.expiryDeadlineMs := fun h => ne_true_of_eq_false hnot ((expiryDue_iff s).2 ⟨harmed, h⟩)
    rw [hpass]; exact .inr ⟨harmed, expiryTurns_timeAdvance hnow⟩

/-- The expiry line has fired at the deadline of `s`, and nothing outside the timer context has changed since `s`. -/
structure ExpiredFrom (s t : State) : Prop where
  now : t.nowMs = s.expiryDeadlineMs
  flag : t.timeoutExpired = true
  disarmed : t.expiryArmed = false
  idle : t.inbox = s.inbox
  frame : t = timerAs t s

/-- A step on the way keeps the deadline. -/
theorem expiredFrom_trans {s v t : State} (hframe : v = timerAs v s) (hinbox : v.inbox = s.inbox) (h : ExpiredFrom v t) :
    ExpiredFrom s t where
  now := h.now.trans (by rw [hframe]; rfl)
  flag := h.flag
  disarmed := h.disarmed
  idle := h.idle.trans hinbox
  frame := eq_timerAs_trans hframe h.frame

/-- Rules R233 and R236: with nothing pending, the next step is the firing of an armed expiry line or brings that firing nearer. -/
theorem own_step_towards_expiry {s : State} (hvalid : s.params.valid = true) (hrst : s.rst = false) (hinbox : s.inbox = [])
    (harmed : s.expiryArmed = true) : ∃ v, step s = .next v ∧ v.inbox = s.inbox ∧ v = timerAs v s ∧
      (ExpiredFrom s v ∨ v.expiryArmed = true ∧ expiryTurns v < expiryTurns s) := by
  have hstep := step_own hvalid hrst hinbox
  have hframe := eq_timerAs_of_timerTurn (timerTurn_of_step hstep (.inl hinbox))
  refine ⟨_, hstep, rfl, hframe, ?_⟩
  obtain ⟨hnow, hfire⟩ | ⟨hstill, hnearer⟩ := timePasses_towards_expiry (Config.tickLineFirst s.draws) harmed
  · rw [hfire]; exact .inl ⟨hnow, rfl, rfl, rfl, rfl⟩
  · exact .inr ⟨hstill, hnearer⟩

/-- Rules R233 and R236: an armed expiry line fires, and does so at its deadline, by induction on the steps it can still be away. -/
theorem expiry_fires_at_deadline (n : Nat) : ∀ s : State, expiryTurns s ≤ n → s.params.valid = true → s.rst = false → s.inbox = [] →
    s.expiryArmed = true → ∃ (k : Nat) (t : State), k ≤ n ∧ core.run k s = .next t ∧ ExpiredFrom s t := by
  induction n with
  | zero => exact fun s hturns => by simp [expiryTurns] at hturns
  | succ n ih =>
    intro s hturns hvalid hrst hinbox harmed
    obtain ⟨v, hstep, hsame, hframe, hfired | ⟨hstill, hnearer⟩⟩ := own_step_towards_expiry hvalid hrst hinbox harmed
    · exact ⟨1, v, by omega, core_run_succ hstep, hfired⟩
    · have hparams : v.params = s.params := by rw [hframe]; rfl
      have hrstV : v.rst = s.rst := by rw [hframe]; rfl
      obtain ⟨k, t, hk, hrun, hfired⟩ := ih v (by omega) (hparams ▸ hvalid) (hrstV.trans hrst) (hsame.trans hinbox) hstill
      exact ⟨k + 1, t, by omega, (core_run_succ hstep).trans hrun, expiredFrom_trans hframe hsame hfired⟩

/-- Settles O30: the count of steps is within the bound, and what the firing leaves is the named elements over the frame. -/
theorem expiryFlagSetAtDeadline : Obligations.ExpiryFlagSetAtDeadline := by
  intro s hvalid hrst hinbox harmed
  obtain ⟨k, t, hk, hrun, hnow, hflag, hdisarmed, hidle, hframe⟩ :=
    expiry_fires_at_deadline _ s (expiryTurns_le s) hvalid hrst hinbox harmed
  refine ⟨k, t, hk, hrun, hframe.trans ?_⟩
  rw [timerAs, hnow, hflag, hdisarmed, hidle]

/-! ### From the set flag to the drain -/

/-- Settles O31: the drain is one of the two forced transitions, each of which clears the flag. -/
theorem timeoutDrainedOnce : Obligations.TimeoutDrainedOnce := by
  intro s hflag hrun
  have again {t : State} (hclear : t.timeoutExpired = false) (hreport : t.cmdIgnored = false) : exec .drainExpiry t = .next t := by
    rw [(CommandCase.drainClear hclear).exec_eq, executed_of_reported hreport]
  cases htarget : s.params.onExpiryTarget with
  | standby => exact ⟨_, (CommandCase.drainToStandby hflag hrun htarget).exec_eq, rfl, rfl, rfl, rfl, rfl, rfl, rfl, again rfl rfl⟩
  | safe => exact ⟨_, (CommandCase.drainToSafe hflag hrun htarget).exec_eq, rfl, rfl, rfl, rfl, rfl, rfl, rfl, again rfl rfl⟩

/-! ### The staircase: operations -/

theorem staircase_of_disarmed {s : State} (htick : s.tickArmed = false) (hexpiry : s.expiryArmed = false) : CountdownStaircase s :=
  ⟨fun h => by simp [htick] at h, fun h => by simp [hexpiry] at h⟩

/-- Rule R184: a started countdown has a whole period and its whole duration to go, and the display counter shows that duration. -/
theorem staircase_withCountdown_running (T : Half) (s : State) : CountdownStaircase (withCountdown true T s) := by
  have hT := T.isLt
  have htick : tickLeft (withCountdown true T s) = 1000 :=
    congrArg BitVec.toNat (add_sub_cancel_left s.nowMs (1000#32))
  have hduration : (BitVec.ofNat 32 (T.toNat * 1000)).toNat = T.toNat * 1000 := by
    rw [BitVec.toNat_ofNat, Nat.mod_eq_of_lt (by omega)]
  have hexpiry : expiryLeft (withCountdown true T s) = T.toNat * 1000 :=
    (congrArg BitVec.toNat (add_sub_cancel_left s.nowMs (BitVec.ofNat 32 (T.toNat * 1000)))).trans hduration
  have hcount : (withCountdown true T s).remainingMs.toNat = T.toNat * 1000 := hduration
  exact ⟨fun _ => htick.le, fun _ => ⟨rfl, by omega, by omega⟩⟩

theorem staircase_startOrRestartCountdown (s : State) : CountdownStaircase (startOrRestartCountdown s) := by
  rw [startOrRestartCountdown_eq]
  cases countdownRuns s with
  | true => exact staircase_withCountdown_running _ s
  | false => exact staircase_of_disarmed rfl rfl

theorem staircase_finishMode (idx : Half) (s : State) : CountdownStaircase (executed (finishMode idx s)) :=
  staircase_startOrRestartCountdown _

/-- Rule R232: a due tick line has run its period down to 0, so with the expiry line armed the counter is still a whole period; the firing
takes that period from the counter and gives the line a new one. -/
theorem staircase_tickFire {s : State} (h : CountdownStaircase s) (hdue : tickDue s = true) : CountdownStaircase (tickFire s) := by
  obtain ⟨-, hexpiry⟩ := h
  obtain ⟨harmed, hnow⟩ := (tickDue_iff s).1 hdue
  have hbefore : tickLeft s = 0 := by rw [tickLeft, hnow, BitVec.sub_self]; rfl
  have hafter : tickLeft (tickFire s) = 1000 := by
    rw [tickLeft, tickFire_eq, hnow]; exact congrArg BitVec.toNat (add_sub_cancel_left s.tickNextMs (1000#32))
  have hcount : (tickFire s).remainingMs.toNat = s.remainingMs.toNat - 1000 := satSub1000_toNat s.remainingMs
  refine ⟨fun _ => hafter.le, fun he => ?_⟩
  obtain ⟨-, hbound, hsum⟩ := hexpiry he
  have hleft : expiryLeft (tickFire s) = expiryLeft s := rfl
  exact ⟨harmed, hbound, by omega⟩

/-- Rule R233: the fired line is disarmed, and the tick line is as it was. -/
theorem staircase_expiryFire {s : State} (h : CountdownStaircase s) : CountdownStaircase (expiryFire s) :=
  ⟨h.1, fun he => absurd he (by simp)⟩

/-- Rule R236: with nothing due, time comes a millisecond nearer to every armed line's deadline and passes none. -/
theorem staircase_timeAdvance {s : State} (h : CountdownStaircase s) (hidle : lineDue s = false) : CountdownStaircase (timeAdvance s) := by
  obtain ⟨htick, hexpiry⟩ := h
  obtain ⟨hnoTick, hnoExpiry⟩ := (lineDue_eq_false s).1 hidle
  have tickNearer (ha : s.tickArmed = true) : tickLeft (timeAdvance s) + 1 = tickLeft s :=
    toNat_sub_succ fun hnow => ne_true_of_eq_false hnoTick ((tickDue_iff s).2 ⟨ha, hnow⟩)
  have expiryNearer (ha : s.expiryArmed = true) : expiryLeft (timeAdvance s) + 1 = expiryLeft s :=
    toNat_sub_succ fun hnow => ne_true_of_eq_false hnoExpiry ((expiryDue_iff s).2 ⟨ha, hnow⟩)
  refine ⟨fun ha => ?_, fun he => ?_⟩
  · have hperiod := htick ha
    have hnearer := tickNearer ha
    omega
  · obtain ⟨ha, hbound, hsum⟩ := hexpiry he
    have htickNearer := tickNearer ha
    have hexpiryNearer := expiryNearer he
    have hcount : (timeAdvance s).remainingMs = s.remainingMs := rfl
    exact ⟨ha, by omega, by rw [hcount]; omega⟩

/-! ### The staircase: steps -/

/-- A command starts the countdown, cancels it, or leaves both lines and the counter as they are. -/
theorem staircase_commandCase {s t : State} {i : Instr} (h : CountdownStaircase s) (hcase : CommandCase s i t) : CountdownStaircase t := by
  cases hcase with
  | applyModeNoWave | applyModeBlocked | applyModeWave => exact staircase_finishMode _ _
  | setLimitRestarted => exact staircase_startOrRestartCountdown { s with limitEnabled := true }
  | powerOn | powerOff | setLimitCancelled | applyProfileStandby | tickTrip | tickTripped | drainToStandby | drainToSafe =>
    exact staircase_of_disarmed rfl rfl
  | sampleNext => rw [recordRawChange_eq, adoptStableLevel_eq]; exact h
  | applyModeIgnored | setLimitStored | applyProfileSafe | sampleFirst | tickWave | tickIdle | drainClear | drainFlagOnly |
    buildSetSpeed => exact h

/-- What a step can do to time (rules R235, R236 and R290). -/
inductive TimeKind (s t : State) : Prop where
  | stands (hnow : t.nowMs = s.nowMs)
  | advances (hidle : lineDue s = false) (hnow : t.nowMs = s.nowMs + 1#32)
  | reset (rest : List Event) (ht : t = assertReset (consumed rest s))

theorem timeKind_timePasses (rest pending : List Event) (tickFirst : Bool) (s : State) :
    TimeKind s { timePasses tickFirst (consumed rest s) with inbox := pending } := by
  obtain ⟨-, ht⟩ | ⟨-, ht⟩ | ⟨htick, hexpiry, ht⟩ := timePasses_cases tickFirst (consumed rest s)
  · exact .stands (by rw [ht]; rfl)
  · exact .stands (by rw [ht]; rfl)
  · exact .advances ((lineDue_eq_false s).2 ⟨htick, hexpiry⟩) (by rw [ht]; rfl)

theorem timeKind_pulse (rest : List Event) (tickFirst : Bool) (s : State) : TimeKind s (pulse tickFirst (consumed rest s)) := by
  rw [pulse]
  split_ifs with hdue
  · obtain ⟨-, -, hnow⟩ := fireDueLine_keeps tickFirst hdue
    exact .stands hnow
  · exact .advances (Bool.eq_false_iff.2 hdue) rfl

theorem timeKind_untilTime (rest : List Event) (u : Word) (tickFirst : Bool) (s : State) :
    TimeKind s (untilTime u tickFirst (consumed rest s)) := by
  obtain ⟨-, -, ht⟩ | ⟨-, ht⟩ := untilTime_cases u tickFirst (consumed rest s)
  · exact .stands (by rw [ht]; rfl)
  · rw [ht]; exact timeKind_timePasses rest _ tickFirst s

/-- Rule R53: no access of the host writes `now_ms`. -/
theorem nowMs_busWrite {bits off : Nat} {v : Word} {s t : State} (h : busWrite bits off v s = .next t) : t.nowMs = s.nowMs := by
  obtain ⟨-, -, hrun⟩ | rfl | rfl | rfl := busWrite_cases h
  · obtain ⟨i, -, hexec⟩ | ⟨-, rfl⟩ := runCommandWord_cases hrun
    · obtain ⟨-, -, -, -, -, -, -, -, -, -, hnow, -⟩ := commandsWriteOnlyTheirElements i s t hexec
      exact hnow
    · rfl
  · rfl
  · rfl
  · rfl

theorem timeKind_takeEvent {s t : State} {e : Event} {rest : List Event} (h : takeEvent e (consumed rest s) = .next t) :
    TimeKind s t := by
  cases e with
  | regWrite bits off v => exact .stands (nowMs_busWrite (s := consumed rest s) h)
  | regRead bits off => obtain rfl := Host.Outcome.next.inj h; exact .stands rfl
  | tickFire => obtain rfl := Host.Outcome.next.inj h; exact .stands (by rw [tickTurn]; split_ifs <;> rfl)
  | expiryFire => obtain rfl := Host.Outcome.next.inj h; exact .stands (by rw [expiryTurn]; split_ifs <;> rfl)
  | msPulse tickFirst => obtain rfl := Host.Outcome.next.inj h; exact timeKind_pulse rest tickFirst s
  | runUntil u tickFirst => obtain rfl := Host.Outcome.next.inj h; exact timeKind_untilTime rest u tickFirst s
  | pinIn level => obtain rfl := Host.Outcome.next.inj h; exact .stands rfl
  | channelMoves => obtain rfl := Host.Outcome.next.inj h; exact .stands rfl
  | rst asserted =>
    obtain rfl := Host.Outcome.next.inj h
    cases asserted with
    | true => exact .reset rest rfl
    | false => exact .stands rfl

/-- Rules R235 and R236: time stands or advances by one millisecond, and advances only with nothing due; a reset puts it to 0. -/
theorem timeKind_of_step {s t : State} (h : step s = .next t) : TimeKind s t := by
  obtain ⟨-, -, rfl⟩ | ⟨-, -, rfl⟩ | ⟨e, rest, -, -, rfl⟩ | ⟨e, rest, -, -, htake⟩ := step_cases h
  · exact .stands rfl
  · exact timeKind_timePasses s.inbox _ _ s
  · exact .stands (by cases e <;> rfl)
  · exact timeKind_takeEvent htake

/-- Settles O34, by the kinds of a step: a command, a reset and a firing as operations; any other step changes nothing of the staircase but
the time, and that only with no line due. -/
theorem staircaseKeptByEveryStep : Obligations.StaircaseKeptByEveryStep := by
  intro s t h hstep
  cases stepKind_of_step hstep with
  | command v rest i hinbox hdecode hcase => exact staircase_commandCase (s := consumed rest s) h hcase
  | reset rest ht => rw [ht]; exact staircase_of_disarmed rfl rfl
  | tickFires hdue ht => rw [ht]; exact staircase_tickFire (s := s) h hdue
  | expiryFires hdue ht => rw [ht]; exact staircase_expiryFire (s := s) h
  | quiet ht =>
    cases timeKind_of_step hstep with
    | stands hnow => rw [ht, hnow]; exact h
    | advances hidle hnow => rw [ht, hnow]; exact staircase_timeAdvance h hidle
    | reset rest ht => rw [ht]; exact staircase_of_disarmed rfl rfl

end Machine
end Sys2Proof

/-! The ProtocolFramer (`45_protocol_framer.md`): the frame of a speed in numbers, that its bytes sum to 0 modulo 256, and the state that
`BUILD_SET_SPEED` leaves (rules R97, R251 and R253). -/
namespace Sys2Proof
namespace Machine

/-! ### The payload bytes in numbers -/

theorem payloadLsb_toNat (r : Half) : (payloadLsb r).toNat = r.toNat % 256 := by
  rw [payloadLsb_eq, BitVec.toNat_ofNat]

/-- A speed has 16 bits, so its high byte does not wrap. -/
theorem payloadMsb_toNat (r : Half) : (payloadMsb r).toNat = r.toNat / 256 := by
  have hwidth : r.toNat < 65536 := r.isLt
  rw [payloadMsb_eq, BitVec.toNat_ofNat, Nat.mod_eq_of_lt (by omega)]

/-! ### The frame -/

/-- Rule R253: the checksum closes the frame of every speed. -/
theorem setSpeedFrame_sum (p : Params) (rpm : Half) :
    (p.frameId.toNat + p.frameCmd.toNat + (clampRpm p rpm).toNat % 256 + (clampRpm p rpm).toNat / 256
      + (setSpeedFrame p rpm).checksum.toNat) % 256 = 0 := by
  rw [← payloadLsb_toNat, ← payloadMsb_toNat]
  exact (checksumClosesFrame _ _ _ _).1

/-- Rules R96 and R97: header, then the clamped speed, low byte first. -/
theorem setSpeedFrame_eq (p : Params) (rpm : Half) : setSpeedFrame p rpm =
    ⟨p.frameId, p.frameCmd, BitVec.ofNat 8 (min rpm.toNat p.rpmMax.toNat),
      BitVec.ofNat 8 (min rpm.toNat p.rpmMax.toNat / 256), (setSpeedFrame p rpm).checksum⟩ := by
  rw [← clampRpm_toNat, ← payloadLsb_eq, ← payloadMsb_eq]
  rfl

/-! ### `BUILD_SET_SPEED` -/

/-- Rule R251: the command runs in every state and writes the frame and the report. -/
theorem exec_buildSetSpeed (rpm : Half) (s : State) :
    exec (.buildSetSpeed rpm) s = .next { s with frameBuf := setSpeedFrame s.params rpm, cmdIgnored := false } :=
  (CommandCase.buildSetSpeed rpm).exec_eq

/-- Settles O23: the fifth byte is the frame's checksum; the clamp and the payload are in numbers by rule R18. -/
theorem buildSetSpeedResult : Obligations.BuildSetSpeedResult := by
  intro rpm s
  refine ⟨(setSpeedFrame s.params rpm).checksum, ?_, ?_⟩
  · rw [exec_buildSetSpeed, ← setSpeedFrame_eq]
  · rw [← clampRpm_toNat]
    exact setSpeedFrame_sum s.params rpm

end Machine
end Sys2Proof

/-! Error taxonomy and asynchronous events (`60_exceptions.md`): every step has a next state (rule R260), the ways out of `SAFE` and Hi-Z
(rules R277 and R292), and a timeout and a trip pending together (rule R268). -/
namespace Sys2Proof
namespace Machine

/-! ### Every step answers -/

/-- Rule R99: a command word is executed or ignored, and both end in a next state. -/
theorem exists_runCommandWord (v : Word) (s : State) : ∃ t, runCommandWord v s = .next t := by
  cases hdecode : decode v with
  | command i =>
    obtain ⟨t, hexec⟩ := exists_exec i s
    exact ⟨t, (runCommandWord_command hdecode s).trans hexec⟩
  | reserved why => exact ⟨_, runCommandWord_reserved hdecode s⟩

/-- Rules R64 and R67: a refused access ends in a next state as well. -/
theorem exists_busWrite (bits off : Nat) (v : Word) (s : State) : ∃ t, busWrite bits off v s = .next t := by
  cases haccess : accessed bits off with
  | none => exact ⟨s, busWrite_refused haccess v s⟩
  | some r =>
    by_cases hcmd : r = .cmd
    · obtain ⟨rfl, rfl⟩ := accessed_cmd.1 (hcmd ▸ haccess)
      exact exists_runCommandWord v s
    · exact ⟨writeRegister r v s, by simp only [busWrite, haccess]⟩

theorem exists_takeEvent (e : Event) (s : State) : ∃ t, takeEvent e s = .next t := by
  cases e with
  | regWrite bits off v => exact exists_busWrite bits off v s
  | regRead | tickFire | expiryFire | msPulse | runUntil | pinIn | channelMoves | rst => exact ⟨_, rfl⟩

/-- Rules R129 and R260: a device with admissible parameters has a next state, whatever is pending and whether `rst` is asserted. -/
theorem exists_step {s : State} (hvalid : s.params.valid = true) : ∃ t, step s = .next t := by
  rw [step_valid hvalid]
  cases hinbox : s.inbox with
  | nil => exact ⟨_, nextStep_nil hinbox⟩
  | cons e rest =>
    cases hrst : s.rst with
    | true => exact ⟨_, nextStep_in_reset hinbox hrst⟩
    | false => rw [nextStep_cons hinbox hrst]; exact exists_takeEvent e (consumed rest s)

/-- Rule R296: no step changes the parameters, not even a reset. -/
theorem params_of_step {s t : State} (h : step s = .next t) : t.params = s.params := by
  cases stepKind_of_step h with
  | command v rest i hinbox hdecode hcase => exact (bookkeeping_of_exec hcase.exec_eq).1
  | reset rest ht => rw [ht]; rfl
  | tickFires hdue ht => rw [ht]; rfl
  | expiryFires hdue ht => rw [ht]; rfl
  | quiet ht => rw [ht]

/-- Settles O10: a step is found for each pending event, and no kind of step writes the parameters. -/
theorem everyStepAnswersANextState : Obligations.EveryStepAnswersANextState := by
  refine ⟨exists_exec, fun s hvalid => ?_⟩
  obtain ⟨t, hstep⟩ := exists_step hvalid
  exact ⟨t, hstep, params_of_step hstep⟩

/-! ### The ways out of `SAFE` and Hi-Z -/

/-- Rule R277 for a command, read off the column of `SAFE` of rule R181. -/
theorem exec_keeps_safe {s t : State} {i : Instr} (hexec : exec i s = .next t) (hsafe : s.msmState = .safe) (hi : i ≠ .powerOn) :
    t.msmState = .safe := by
  have hrow := transitionTable.1 i s t hexec
  cases i with
  | powerOn => exact absurd rfl hi
  | powerOff => exact hrow
  | applyProfile => exact hrow.trans (if_pos hsafe)
  | applyMode | drainExpiry =>
    have hkept : t.msmState = .safe ∧ t.armed = s.armed := by simpa [hsafe] using hrow
    exact hkept.1
  | setLimit | sample | tick | buildSetSpeed => exact hrow.1.trans hsafe

/-- Rules R277 and R292: a reset enters `SAFE`, and no step outside the control context writes `msm_state`. -/
theorem powerOn_of_leaves_safe {s t : State} (hstep : step s = .next t) (hsafe : s.msmState = .safe) (hleft : t.msmState ≠ .safe) :
    ∃ v rest, s.inbox = .regWrite 32 0x00 v :: rest ∧ decode v = .command .powerOn := by
  cases stepKind_of_step hstep with
  | command v rest i hinbox hdecode hcase =>
    by_cases hi : i = .powerOn
    · exact ⟨v, rest, hinbox, hi ▸ hdecode⟩
    · exact absurd (exec_keeps_safe (s := consumed rest s) hcase.exec_eq hsafe hi) hleft
  | reset rest ht => exact absurd (by rw [ht]; rfl) hleft
  | tickFires hdue ht => exact absurd (by rw [ht]; exact hsafe) hleft
  | expiryFires hdue ht => exact absurd (by rw [ht]; exact hsafe) hleft
  | quiet ht => exact absurd (by rw [ht]; exact hsafe) hleft

/-- Rule R49 item 1, at the pad: the block drives it exactly outside `SAFE`. -/
theorem padOe_iff_of_blockInv {s : State} (h : BlockInv s) : padOe s = true ↔ s.msmState ≠ .safe := by
  obtain ⟨-, hhiZ, -⟩ := h
  exact (padOe_iff s).trans (not_congr hhiZ).symm

/-- Settles O39: the step keeps the invariants, so it leaves Hi-Z exactly by leaving `SAFE`. -/
theorem onlyPowerOnLeavesSafe : Obligations.OnlyPowerOnLeavesSafe := by
  refine fun s t hstep => ⟨powerOn_of_leaves_safe hstep, fun hinv hreleased hdriven => ?_⟩
  have hsafe : s.msmState = .safe := by
    by_contra hnot
    exact ne_true_of_eq_false hreleased ((padOe_iff_of_blockInv hinv).2 hnot)
  exact powerOn_of_leaves_safe hstep hsafe ((padOe_iff_of_blockInv (invariantKeptByEveryStep s t hinv hstep)).1 hdriven)

/-! ### A timeout and a trip pending together -/

/-- Rule R195: outside `RUNNING` a `TICK` writes the report only. -/
theorem exec_tick_not_running {s : State} (hrun : s.msmState ≠ .running) (hreport : s.cmdIgnored = false) : exec .tick s = .next s := by
  rw [(CommandCase.tickIdle (.inl hrun)).exec_eq, executed_of_reported hreport]

/-- Rule R196: with the flag clear a `DRAIN_EXPIRY` writes the report only. -/
theorem exec_drain_clear {s : State} (hflag : s.timeoutExpired = false) (hreport : s.cmdIgnored = false) :
    exec .drainExpiry s = .next s := by
  rw [(CommandCase.drainClear hflag).exec_eq, executed_of_reported hreport]

/-- Rule R268 item b: the drain leaves `RUNNING` for the target, and no `TICK` trips there. -/
theorem drain_then_tick {s : State} (hrun : s.msmState = .running) (hflag : s.timeoutExpired = true) :
    ∃ t, exec .drainExpiry s = .next t ∧ exec .tick t = .next t ∧ t.armed = false ∧ t.indicatorHz = 0#16 ∧
      (s.params.onExpiryTarget = .standby → t.msmState = .standby ∧ t.pinState = .drivenLow) ∧
      (s.params.onExpiryTarget = .safe → t.msmState = .safe ∧ t.pinState = .hiZ) := by
  cases htarget : s.params.onExpiryTarget with
  | standby =>
    have hdrain := (CommandCase.drainToStandby hflag hrun htarget).exec_eq
    have hleft : (executed (enterStandby s)).msmState ≠ .running := by simp [enterStandby]
    exact ⟨_, hdrain, exec_tick_not_running hleft rfl, rfl, rfl, fun _ => ⟨rfl, rfl⟩, nofun⟩
  | safe =>
    have hdrain := (CommandCase.drainToSafe hflag hrun htarget).exec_eq
    have hleft : (executed (enterSafe s)).msmState ≠ .running := by simp [enterSafe]
    exact ⟨_, hdrain, exec_tick_not_running hleft rfl, rfl, rfl, nofun, fun _ => ⟨rfl, rfl⟩⟩

/-- Rule R268 item c: the trip cancels the countdown and with it the flag, so the drain finds nothing. -/
theorem trip_then_drain {s : State} (hrun : s.msmState = .running) (harmed : s.armed = true) (hblocked : blocked s = true) :
    ∃ t, exec .tick s = .next t ∧ exec .drainExpiry t = .next t ∧ t.armed = false ∧ t.msmState = .running ∧
      t.pinState = .drivenLow ∧ t.indicatorHz = s.indicatorHz ∧ t.timeoutExpired = false :=
  ⟨_, (CommandCase.tickTrip hblocked hrun harmed).exec_eq, exec_drain_clear rfl rfl, rfl, hrun, rfl, rfl, rfl⟩

/-- Settles O43: whichever command comes first takes its cause and leaves nothing for the other. -/
theorem timeoutAndTripOrders : Obligations.TimeoutAndTripOrders := fun s hrun harmed hflag henabled hlevel =>
  ⟨drain_then_tick hrun hflag, trip_then_drain hrun harmed ((blocked_eq_true_iff s).2 ⟨henabled, hlevel⟩)⟩

end Machine
end Sys2Proof

/-! Reset (`70_reset_and_hazards.md`): `rst` is asserted, held and released (rule R290). -/

namespace Sys2Proof
namespace Machine

/-- Rule R290: the step of the assertion is the reset of the state in which the event has been taken. -/
theorem step_rst_asserted {s : State} {rest : List Event} (hvalid : s.params.valid = true) (hrst : s.rst = false)
    (hinbox : s.inbox = .rst true :: rest) : step s = .next (assertReset (consumed rest s)) :=
  step_takes_event hvalid hrst hinbox

/-- Rule R290: while `rst` is asserted only its release has an effect; asserting it again has none. -/
theorem takeEventInReset_of_held {e : Event} {s : State} (hrst : s.rst = true) (hrelease : e ≠ .rst false) :
    takeEventInReset e s = s := by
  cases e with
  | rst asserted =>
    cases asserted with
    | true => rw [takeEventInReset, ← hrst]
    | false => exact absurd rfl hrelease
  | regRead | regWrite | tickFire | expiryFire | msPulse | runUntil | pinIn | channelMoves => rfl

section Held

variable {s : State} (hvalid : s.params.valid = true) (hrst : s.rst = true)
include hvalid hrst

theorem step_held_takes_event {e : Event} {rest : List Event} (hinbox : s.inbox = e :: rest) :
    step s = .next (takeEventInReset e (consumed rest s)) := by
  rw [step_valid hvalid, nextStep_in_reset hinbox hrst]

theorem step_held_drops_event {e : Event} {rest : List Event} (hinbox : s.inbox = e :: rest) (hrelease : e ≠ .rst false) :
    step s = .next (consumed rest s) := by
  have hheld : (consumed rest s).rst = true := hrst
  rw [step_held_takes_event hvalid hrst hinbox, takeEventInReset_of_held hheld hrelease]

/-- Rule R290: time does not pass and no line fires while `rst` is asserted. -/
theorem step_held_idle (hinbox : s.inbox = []) : step s = .next (consumed [] s) := by
  rw [step_valid hvalid, nextStep_nil hinbox, ownStep, if_pos hrst, drawn, consumed, ← hinbox]

theorem step_held_release {rest : List Event} (hinbox : s.inbox = .rst false :: rest) :
    step s = .next { consumed rest s with rst := false } :=
  step_held_takes_event hvalid hrst hinbox

end Held

/-- Settles O57: the unspecified elements take the values that the step's own draw gives. -/
theorem assertedResetHoldsTheBlock : Obligations.AssertedResetHoldsTheBlock := fun s _ hvalid =>
  ⟨fun hrst hinbox => ⟨Config.resetDraw (s.draws + 1), step_rst_asserted hvalid hrst hinbox⟩,
    fun hrst => ⟨fun _ hinbox hrelease => step_held_drops_event hvalid hrst hinbox hrelease, step_held_idle hvalid hrst⟩,
    fun hrst hinbox => step_held_release hvalid hrst hinbox⟩

end Machine
end Sys2Proof
